-- ==== Sys2Proof/Word.lean ====
section
/-! DEFINITION. The words and numbers of the part: bytes, the identifiers of lines, bays, job slots and accounts,
and the plainest list and table helpers. -/

namespace Sys2Proof

/-- A byte of the host link, of a press line character's value, or of the spool store. -/
abbrev Byte := BitVec 8

/-- A press line PL0–PL23. -/
abbrev LineId := Fin 24

/-- A bay B0–B7. -/
abbrev BayId := Fin 8

/-- A job slot J0–J255. -/
abbrev JobId := Fin 256

/-- An account A0–A511. -/
abbrev AcctId := Fin 512

/-- The number as an identifier, where it is in range. -/
def toFin? (bound n : Nat) : Option (Fin bound) :=
  if h : n < bound then some ⟨n, h⟩ else none

/-- The table with every row rewritten (kept on lists, so that the kernel evaluates it). -/
def mapTable {α β : Type} {n : Nat} (f : α → β) (v : Vector α n) : Vector β n :=
  ⟨⟨v.toList.map f⟩, by simp⟩

/-- A natural number held at a top value. -/
def capAt (top n : Nat) : Nat := min top n

/-- The 32-bit word read as a signed number (R136). -/
def signed32 (w : BitVec 32) : Int := w.toInt

end Sys2Proof
end

