-- ==== Sys2Proof/Syntax.lean ====
section
/-! DEFINITION. The commands: one constructor per row of spec/opcode_table.json. A request row is the taking of the
request at the head of the request buffer (its operands stand in the buffered frame's payload, R176); a row for a
frame taken by a PLP finds the frame's fields in the line's inbound frame queue. -/

namespace Sys2Proof

/-- The commands of the part, one per row of the table. -/
inductive Instr where
  /-- Power rises or RESET is asserted (R182). -/
  | powerOnReset
  /-- RESET is released with power good; `strap` is STRAP1..0 as sampled (R182, R25). -/
  | resetRelease (strap : BitVec 2)
  /-- The strap sample is taken and the spool store port is ready (R182). -/
  | enterUnconfigured
  /-- The bytes the part takes in on HSI in one transfer, up to the frame's arrival (R171, R173). -/
  | requestArrival (hsi : List Byte)
  | partialFrameDiscarded
  | replyShiftedOut
  | badVerdictReply
  | identify
  | start
  | restart
  | linkStatus
  | queuePeek
  /-- `take`: the level of the TAKE pin of the reported line, true for active (R180, R69). -/
  | nextNotice (take : Bool)
  | setLine
  /-- `take`: the level of the TAKE pin of the reported line, true for active (R69). -/
  | lineQuery (take : Bool)
  | lineTest
  | setBay
  | setPattern
  | jobOpen
  | pageBegin
  | pageData
  | pageEnd
  | jobClose
  | jobHold
  | jobRelease
  | jobCancel
  | jobQuery
  | jobReap
  | setRate
  | accountSet
  | accountRead
  | accountDelete
  | setClose
  | closePeriod
  | alertQuery
  | alertAck
  | setEscalation
  /-- A character completes at its stop sample with these sampled bits; `parity` has no meaning in mode NONE, and
  in LOOPBACK the character is the one on the internal path (R65, R70). -/
  | characterReceived (line : LineId) (value : Byte) (marker parity stop : Bool)
  | gapTimeout (line : LineId)
  | hello (line : LineId)
  | status (line : LineId)
  | exit (line : LineId)
  | jam (line : LineId)
  | halt (line : LineId)
  | cleared (line : LineId)
  | testFrameTaken (line : LineId)
  | echoWaitExpiry (line : LineId)
  /-- The tick at which a held character would begin; `take` is TAKE as sampled there, true for active (R62). -/
  | characterStart (line : LineId) (take : Bool)
  | testSent (line : LineId)
  | pageCloseSent (line : LineId)
  | resyncSent (line : LineId)
  | jobStartSent (line : LineId)
  | silenceExpiry (line : LineId)
  | pollExpiry (line : LineId)
  | stallTimerExpiry (line : LineId)
  | escalationExpiry (line : LineId)
  | failoverExpiry (line : LineId)
  | intervalExpiry
  | closeScanTick
  | beaconPeriodEnd (bay : BayId)
  | ackPress (bay : BayId)
  /-- A filtered edge of SHIFT, rising or falling (R169). -/
  | shiftEdge (rising : Bool)
  | ackRelease (bay : BayId)
  | huntResumes (line : LineId)
  | edgeTakenAsNoise (line : LineId)
  | beaconOnTimeEnd (bay : BayId)
  deriving DecidableEq, Repr

end Sys2Proof
end

