-- ==== Sys2Proof/Config.lean ====
section
/-! DEFINITION. The fixed capacities and constants of the part (00_scope.md "Principal capacities" and the rules
named at each). No implementation-defined value is left to configure: the part has one form. -/

namespace Sys2Proof.Config

/-- Bytes of one spool store block (R25). -/
def blockBytes : Nat := 8192

/-- Entries of the page entry pool (R2). -/
def pageEntries : Nat := 16384

/-- Pages of one job (R2, R7). -/
def maxPages : Nat := 4096

/-- Bytes of one PAGE-DATA (R8). -/
def maxRun : Nat := 2040

/-- Longest payload of a frame on the host link (R172). -/
def maxPayload : Nat := 2048

/-- Places of the request buffer (R173). -/
def bufferPlaces : Nat := 4

/-- Places of the reply queue (R175). -/
def replyPlaces : Nat := 4

/-- Places of a line's inbound frame queue (R67). -/
def inboundPlaces : Nat := 4

/-- Longest body of a press link frame (R74). -/
def maxBody : Nat := 260

/-- Page bytes of one DATA frame (R87). -/
def dataBytes : Nat := 256

/-- The echo wait of a LINE-TEST in ms (R71). -/
def echoWait : Nat := 100

/-- The top of a saturating 32-bit total (R109, R117). -/
def top32 : Nat := 4294967295

/-- The top of a saturating 16-bit count (R1, R141). -/
def top16 : Nat := 65535

/-- Accounts one tick of the close scan takes (R125). -/
def scanStep : Nat := 16

/-- Number of accounts (R109). -/
def accounts : Nat := 512

/-- The part code of IDENTIFY (R178). -/
def partCode : BitVec 16 := 0x2408#16

/-- The revision number of IDENTIFY (R178). -/
def revision : Nat := 1

end Sys2Proof.Config
end

