-- ==== Sys2Proof/Machine/Records.lean ====
section
/-! DEFINITION. The records of the part's blocks as plain data: jobs and pages, the spool store, press lines,
alerts, accounts, the floor, the attention list, and the host link with its replies. -/

namespace Sys2Proof.Machine

/-! ## Jobs (01_jobs.md) -/

/-- Job classes in dispatch order (R1, R41). -/
inductive JobClass where
  | rush | standard | bulk
  deriving DecidableEq, Repr

/-- The colour mode of a page (R3). -/
inductive ColourMode where
  | mono | spot | full
  deriving DecidableEq, Repr

/-- A colour level: of a job's needs (R1) or of a printer's capability (R77). -/
inductive ColourLevel where
  | plain | spot | full
  deriving DecidableEq, Repr

/-- Where a job is to print (R1). -/
inductive Target where
  | bay (b : BayId)
  | line (l : LineId)
  deriving DecidableEq, Repr

/-- The most any page of the job will need (R1). -/
structure Needs where
  colour : ColourLevel
  duplex : Bool
  media : BitVec 16
  deriving DecidableEq, Repr

/-- A page descriptor as stored (R3). The back coverage is stored exactly when sides is 2. -/
structure Descriptor where
  media : Fin 16
  colour : ColourMode
  front : Nat
  back : Option Nat
  deriving DecidableEq, Repr

/-- A page entry in use (R2). -/
structure PageEntry where
  index : Nat
  desc : Descriptor
  length : Nat
  chain : List Nat
  copies : Nat
  deriving DecidableEq, Repr

/-- The next-send position: an instance, sendable or waiting, or END (R4). -/
inductive Pos where
  | at (copy page : Nat)
  | done
  deriving DecidableEq, Repr

/-- The states of a slot that holds a job; FREE is the absent record (R1). -/
inductive JobState where
  | loading | queued | active | stalled | suspended | held | done | aborted
  deriving DecidableEq, Repr

/-- Why a job is HELD (R1). -/
inductive HoldReason where
  | host | budget | data | lineLost
  deriving DecidableEq, Repr

/-- Why a bound job is STALLED (R1, R49). -/
inductive StallReason where
  | budget | data
  deriving DecidableEq, Repr

/-- A job record (R1), with the Dispatch Unit's two per-job markers (R44, R53). -/
structure Job where
  tag : BitVec 32
  account : AcctId
  target : Target
  cls : JobClass
  copies : Nat
  needs : Needs
  earlyStart : Bool
  splitAllowed : Bool
  intakeOpen : Bool
  openPage : Option PageEntry
  pages : List PageEntry
  pageCount : Nat
  pos : Pos
  confirmed : Nat
  bound : Option LineId
  runCount : Nat
  holdReason : Option HoldReason
  holdPending : Bool
  stallReason : Option StallReason
  state : JobState
  blocked : Bool
  cutPending : Bool
  deriving DecidableEq, Repr

/-! ## Spool store (02_the_spool_store.md) -/

/-- The spool store's pool: the blocks in chains, strictly rising; every other block below N is free (R26). -/
structure Store where
  strap : BitVec 2
  used : List Nat
  low : Bool
  deriving DecidableEq, Repr

/-! ## Press lines (04_press_lines.md, 05_the_press_link_protocol.md, 08_sheet_counting_and_discrepancy.md) -/

/-- The states of a line (R79). -/
inductive LineState where
  | disabled | detached | idle | busy | alert | recovering | loopback
  deriving DecidableEq, Repr

/-- A line's mode setting (R60). -/
inductive LineMode where
  | off | on | loopback
  deriving DecidableEq, Repr

/-- Parity modes (R57). -/
inductive Parity where
  | none | odd | even | zero
  deriving DecidableEq, Repr

/-- The character format and rate of a line (R58, R59). -/
structure Format where
  parity : Parity
  twoStops : Bool
  p : Nat
  k : Nat
  deriving DecidableEq, Repr

/-- The protocol settings (R83): window depth, silence timeout and poll interval in ms. -/
structure Protocol where
  depth : Nat
  silence : Nat
  poll : Nat
  deriving DecidableEq, Repr

/-- Count sources (R130). -/
inductive CountSource where
  | exit | sent
  deriving DecidableEq, Repr

/-- The Sheet Count Unit's state of a line (R130); offset and latch are signed. -/
structure Counting where
  source : CountSource
  offset : BitVec 32
  tolerance : Nat
  baseline : BitVec 32
  tally : BitVec 32
  last : BitVec 32
  latch : Option (BitVec 32)
  deriving DecidableEq, Repr

/-- The four sticky error marks (R68). -/
structure Errors where
  parity : Bool
  framing : Bool
  brk : Bool
  overrun : Bool
  deriving DecidableEq, Repr

/-- An eight-sample filter: its filtered level and the run of samples that differ from it (R63, R167). -/
structure Filter where
  level : Bool
  run : Nat
  deriving DecidableEq, Repr

/-- What the receiver is doing (R61, R64): stopped, hunting for a start bit, this many ticks past the falling edge of a
character in reception with these bits sampled (oldest first, none before tick 4 has confirmed the start bit), or
waiting for mark after a stop sample that found space. -/
inductive RxCond where
  | stopped | hunting
  | sampling (tick : Nat) (bits : List Bool)
  | waitMark
  deriving DecidableEq, Repr

/-- The frame assembler (R75). -/
inductive Assembler where
  | hunting
  | inFrame (kind : Byte) (body : List Byte) (poisoned : Bool)
  | skipping
  deriving DecidableEq, Repr

/-- The kinds of conditions, in their rank order (R141). -/
inductive CondKind where
  | linkDown | noAnswer | jam | coverOpen | mediaOut
  deriving DecidableEq, Repr

/-- A good inbound frame (R77), with TEST for a LOOPBACK line (R70). -/
inductive InFrame where
  | hello (model : BitVec 16) (sheets : BitVec 32) (colour : ColourLevel) (duplex : Bool) (media : BitVec 16)
      (window : Nat)
  | status (ready : Bool)
  | exit (count : Nat) (sheets : BitVec 32)
  | jam (location : Nat)
  | mediaOut (tray : Nat)
  | coverOpen
  | cleared (kind : CondKind)
  | test (body : List Byte)
  deriving DecidableEq, Repr

/-- A character on the internal LOOPBACK path (R70). -/
structure PathChar where
  value : Byte
  marker : Bool
  deriving DecidableEq, Repr

/-- The receiving side of a line's engine (R63 to R67, R75). -/
structure Receiver where
  cond : RxCond
  filter : Filter
  asm : Assembler
  queue : List InFrame
  path : List PathChar
  deriving DecidableEq, Repr

/-- The reasons of JOB-END (R77). -/
inductive EndReason where
  | complete | cut | abort
  deriving DecidableEq, Repr

/-- A frame the part sends (R77). A JOB-START and a RESYNC also name the announcement they belong to, `Line.turn`. -/
inductive OutFrame where
  | welcome (line : LineId) (window : Nat)
  | jobStart (tag : BitVec 32) (run turn : Nat)
  | pageOpen (copy page : Nat) (desc : Descriptor)
  | data (bytes : List Byte)
  | pageClose (length : Nat)
  | jobEnd (reason : EndReason)
  | resync (turn : Nat)
  | poll
  | test (pattern : List Byte)
  deriving DecidableEq, Repr

/-- Frames whose sending has an effect of its own once their END has gone out. -/
inductive Sent where
  | jobStart (turn : Nat)
  | pageClose
  | resync (turn : Nat)
  | test
  deriving DecidableEq, Repr

/-- What a character is to its frame. -/
inductive CharRole where
  | plain
  | pollBegin
  | ends (frame : Sent)
  deriving DecidableEq, Repr

/-- A character on its way out (R62, R74). -/
structure TxChar where
  value : Byte
  marker : Bool
  role : CharRole
  deriving DecidableEq, Repr

/-- The sending side of a line: frames due (R78), frames held while a record is open (R93), the rest of the frame in
transmission, and the engine's two stages (R62). -/
structure Transmitter where
  due : List OutFrame
  held : List OutFrame
  pollDue : Bool
  sending : List TxChar
  hold : Option TxChar
  shift : Option TxChar
  gapOwed : Bool
  take : Bool
  deriving DecidableEq, Repr

/-- The attachment record with the effective window (R81). -/
structure Attachment where
  model : BitVec 16
  colour : ColourLevel
  duplex : Bool
  media : BitVec 16
  printerWindow : Nat
  window : Nat
  ready : Option Bool
  deriving DecidableEq, Repr

/-- An entry of the in-flight window (R86), with its page's descriptor (R117 hands it to the Meter Unit). -/
structure Entry where
  job : JobId
  copy : Nat
  page : Nat
  charge : Nat
  account : AcctId
  closed : Bool
  desc : Descriptor
  deriving DecidableEq, Repr

/-- The page a line has opened and not yet sent to its PAGE-CLOSE, with the deferred release (R31) and the read cursor
(R32, an offset). The page is in transmission, as R87 defines it, exactly while the cursor is present: the cursor opens
as the PAGE-OPEN is begun. Before that the page waits, opened, for its PAGE-OPEN (log entry 12). -/
structure PageTx where
  job : JobId
  copy : Nat
  entry : PageEntry
  cursor : Option Nat
  closing : Bool
  deferred : Bool
  deriving DecidableEq, Repr

/-! ## Alerts (09_alerts_and_escalation.md) -/

/-- The detail of a condition entry (R141). -/
inductive Detail where
  | plain
  | jam (locations : List Nat) (dropped : Nat)
  | tray (number : Nat)
  deriving DecidableEq, Repr

/-- A condition entry (R141). -/
structure Cond where
  kind : CondKind
  detail : Detail
  first : BitVec 32
  repeats : Nat
  deriving DecidableEq, Repr

/-- Alert levels (R140). -/
inductive Level where
  | one | two | three
  deriving DecidableEq, Repr

/-- The failover state of a record (R140); remaining time in ms. -/
inductive Failover where
  | none
  | running (left : Nat)
  | due
  | taken
  deriving DecidableEq, Repr

/-- An open alert record (R140). -/
structure Alert where
  conds : List Cond
  level : Level
  acked : Bool
  timer : Option Nat
  failover : Failover
  loss : Bool
  opened : BitVec 32
  deriving DecidableEq, Repr

/-- An escalation profile, in seconds (R146). -/
structure Profile where
  t12 : Nat
  t23 : Nat
  failover : Nat
  deriving DecidableEq, Repr

/-- A press line with everything the blocks hold about it. `turn` is the model's own serial number of the line's present
announcement: it rises at each binding and at each entry of RECOVERING, and a JOB-START or RESYNC of an earlier one
starts nothing when it has been sent (R86, R94, R159; log entry 23). -/
structure Line where
  state : LineState
  mode : LineMode
  bay : Option BayId
  fmt : Format
  proto : Protocol
  count : Counting
  errs : Errors
  rx : Receiver
  tx : Transmitter
  att : Option Attachment
  window : List Entry
  job : Option JobId
  turn : Nat
  started : Bool
  endSent : Bool
  page : Option PageTx
  alert : Option Alert
  silence : Option Nat
  poll : Option Nat
  stall : Option Nat
  echo : Option Nat
  deriving DecidableEq, Repr

/-! ## Meter (06_charge_computation.md, 07_accounts_budgets_and_period_close.md) -/

/-- A rate table cell (R98). -/
structure Rate where
  base : Nat
  ksur : Nat
  deriving DecidableEq, Repr

/-- Budget modes (R111). -/
inductive Mode where
  | unlimited | soft | hard
  deriving DecidableEq, Repr

/-- The record of an ACTIVE account (R109); ABSENT is the absent record. -/
structure Account where
  mode : Mode
  limit : Nat
  watermark : Nat
  factor : Nat
  consumed : Nat
  held : Nat
  mono : Nat
  colour : Nat
  sheets : Nat
  epoch : BitVec 16
  crossed : Bool
  saturated : Bool
  refs : Nat
  deriving DecidableEq, Repr

/-- A filled snapshot (R128). -/
structure Snapshot where
  epoch : BitVec 16
  consumed : Nat
  mono : Nat
  colour : Nat
  sheets : Nat
  saturated : Bool
  deriving DecidableEq, Repr

/-- Close modes (R121). -/
inductive CloseMode where
  | manual | line | interval
  deriving DecidableEq, Repr

/-- The SHIFT edge setting (R121). -/
inductive EdgeMode where
  | none | rising | falling | both
  deriving DecidableEq, Repr

/-- The device-wide state of the Meter Unit (R98, R121, R124). `rates` has cell (m, c) at 3 m + c; `scan` is the scan
position of the close in flight; `timer` is the interval timer in ms. -/
structure Meter where
  rates : Vector Rate 48
  epoch : BitVec 16
  scan : Option Nat
  closeMode : CloseMode
  edge : EdgeMode
  interval : Nat
  timer : Option Nat
  deriving DecidableEq, Repr

/-! ## Floor (10_beacons_bell_and_floor_inputs.md) -/

/-- The names of the six patterns (R162). -/
inductive Pattern where
  | off | steady | slow | fast | dim | acked
  deriving DecidableEq, Repr

/-- A pattern table entry in ms (R162). -/
structure PatternDef where
  period : Nat
  onTime : Nat
  deriving DecidableEq, Repr

/-- A running beacon generator (R165). -/
structure Generator where
  running : Pattern
  period : Nat
  onTime : Nat
  pos : Nat
  deriving DecidableEq, Repr

/-- A bay's beacon: its selection (R164) and its generator, absent while stopped (R170). -/
structure Beacon where
  sel : Pattern
  gen : Option Generator
  deriving DecidableEq, Repr

/-- The Floor Signal Unit's state (R162 to R167). `patterns` in the order of R162. -/
structure Floor where
  patterns : Vector PatternDef 6
  levelMap : Vector Pattern 3
  beacons : Vector Beacon 8
  bell : Bool
  ack : Vector Filter 8
  shift : Filter
  deriving DecidableEq, Repr

/-! ## Attention list (11_host_link_notices_and_lifephases.md) -/

/-- The sources of marks (R179). -/
inductive Source where
  | device
  | line (l : LineId)
  | job (j : JobId)
  | account (a : AcctId)
  deriving DecidableEq, Repr

/-- Why the part restarted (R181, R185). -/
inductive Cause where
  | powerOn | restart
  deriving DecidableEq, Repr

/-- What asked for a missed close (R123). -/
inductive Trigger where
  | shift | interval
  deriving DecidableEq, Repr

/-- Why a record closed (R154, R161). -/
inductive CloseReason where
  | cleared | disabled
  deriving DecidableEq, Repr

/-- The totals that can be held at their top (R117). -/
inductive Total where
  | consumed | mono | colour | sheets
  deriving DecidableEq, Repr

/-- The marks with the values they carry, in the order of the table of section 11.5. -/
inductive Mark where
  | restarted (cause : Cause)
  | closeDone (epoch : BitVec 16)
  | closeMissed (trigger : Trigger) (epoch : BitVec 16)
  | storeLow
  | attached (window : Nat)
  | detached
  | alertOpened (kind : CondKind) (detail : Detail)
  | alertRaised (level : Level)
  | alertClosed (duration : BitVec 32) (reason : CloseReason)
  | discrepancy (d : BitVec 32)
  | lineErrors
  | done (confirmed : Nat)
  | split (pos : Pos)
  | cut (reason : HoldReason)
  | aborted (confirmed : Nat)
  | budgetBlocked (charge : Nat)
  | watermark (available : Nat)
  | exhausted (charge : Nat)
  | saturated (totals : List Total)
  deriving DecidableEq, Repr

/-- A key on the attention list with its marks (R179). -/
structure Key where
  src : Source
  marks : List Mark
  deriving DecidableEq, Repr

/-- All the room's state: everything the blocks other than the host link and the DRAM hold. -/
structure Room where
  attn : List Key
  jobs : Vector (Option Job) 256
  freeEntries : Nat
  store : Store
  stallTimeout : Vector Nat 8
  bayQueues : Vector (List JobId) 8
  lineQueues : Vector (List JobId) 24
  lines : Vector Line 24
  meter : Meter
  accounts : Vector (Option Account) 512
  snapshots : Vector (Option Snapshot) 512
  profiles : Vector Profile 5
  ms : BitVec 32
  floor : Floor
  deriving DecidableEq, Repr

/-! ## Host link (11_host_link_notices_and_lifephases.md) -/

/-- Lifephases (R182). -/
inductive Lifephase where
  | powerClear | strap | unconfigured | running
  deriving DecidableEq, Repr

/-- Verdicts of an arrived frame (R173). -/
inductive Verdict where
  | tooLong | badCheck | unknownKind | good
  deriving DecidableEq, Repr

/-- A frame in the request buffer (R173). -/
structure ReqFrame where
  kind : Byte
  tag : Byte
  payload : List Byte
  verdict : Verdict
  deriving DecidableEq, Repr

/-- Reply statuses in the order of their codes (R174). -/
inductive Status where
  | ok | clamped | busy | badState | badArg | notFound | noSlot | noSpace | overLimit | notRunning | badCheck
  | tooLong | unknownKind
  deriving DecidableEq, Repr

/-- The settings and condition of a line as LINE-QUERY gives them (R69). -/
structure LineReport where
  line : LineId
  state : LineState
  mode : LineMode
  bay : Option BayId
  fmt : Format
  errs : Errors
  queued : Nat
  take : Bool
  give : Bool
  att : Option Attachment
  window : List Entry
  count : Counting
  deriving DecidableEq, Repr

/-- One line's ALERT-QUERY reply (R160); an open record carries its remaining times. -/
structure AlertReport where
  line : LineId
  state : LineState
  record : Option Alert
  ms : BitVec 32
  job : Option (JobId × JobState)
  deriving DecidableEq, Repr

/-- One entry of the ALERT-QUERY reply for all lines (R160). -/
structure AlertSummary where
  isOpen : Bool
  level : Option Level
  acked : Bool
  highest : Option CondKind
  deriving DecidableEq, Repr

/-- A job's record as JOB-QUERY gives it (R17). -/
structure JobReport where
  tag : BitVec 32
  account : AcctId
  target : Target
  cls : JobClass
  copies : Nat
  needs : Needs
  earlyStart : Bool
  splitAllowed : Bool
  intakeOpen : Bool
  openPage : Option (Descriptor × Nat)
  pagesHeld : Nat
  firstIndex : Option Nat
  pageCount : Nat
  pos : Pos
  confirmed : Nat
  bound : Option LineId
  runCount : Nat
  holdReason : Option HoldReason
  holdPending : Bool
  stallReason : Option StallReason
  state : JobState
  inFlight : Nat
  deriving DecidableEq, Repr

/-- An account's record with its available and watermark level (R114). -/
structure AccountReport where
  account : AcctId
  fields : Account
  available : Nat
  level : Nat
  deriving DecidableEq, Repr

/-- The DEVICE snapshot of a notice (R180). -/
structure DeviceReport where
  phase : Lifephase
  blocks : Nat
  freeCount : Nat
  low : Bool
  freeEntries : Nat
  epoch : BitVec 16
  scan : Option Nat
  closeMode : CloseMode
  edge : EdgeMode
  interval : Nat
  ms : BitVec 32
  deriving DecidableEq, Repr

/-- The snapshot of a notice (R180). -/
inductive Snap where
  | device (d : DeviceReport)
  | line (l : LineReport) (a : AlertReport)
  | job (slot : JobId) (j : Option JobReport)
  | account (a : Option AccountReport)
  deriving DecidableEq, Repr

/-- The floor as SET-PATTERN gives it (R163). -/
structure FloorReport where
  patterns : Vector PatternDef 6
  levelMap : Vector Pattern 3
  beacons : List (Pattern × Option Pattern)
  bell : Bool
  ack : List Bool
  shift : Bool
  deriving DecidableEq, Repr

/-- The outcome of a LINE-TEST (R71). -/
inductive TestOutcome where
  | matched
  | mismatch (length offset : Nat)
  | noEcho
  deriving DecidableEq, Repr

/-- The results after a reply's status and summary bytes, as the owning rules name them. -/
inductive Results where
  | none
  | identify (part : BitVec 16) (revision : Nat) (strap : BitVec 2) (blocks : Nat) (phase : Lifephase)
      (ms : BitVec 32)
  | linkStatus (refused : Bool) (waiting ahead : Nat) (phase : Lifephase)
  | queuePeek (bays lines : List Nat) (freeCount : Nat) (low : Bool) (freeEntries keys : Nat)
  | noNotice
  /-- The source's kind code and number (none for DEVICE), its marks, and the snapshot (R180). -/
  | notice (kind : Nat) (number : Option Nat) (marks : List Mark) (snap : Snap)
  | line (state : LineState) (fmt : Format) (proto : Protocol) (source : CountSource) (offset : BitVec 32)
      (tolerance : Nat) (mode : LineMode)
  | lineQuery (l : LineReport)
  | test (outcome : TestOutcome)
  | busyLine (l : LineId)
  | bay (members : List LineId) (timeout : Nat)
  | floor (f : FloorReport)
  | job (slot : Nat) (state : Option JobState)
  | pageIndex (slot : JobId) (state : JobState) (index : Nat)
  | pageLength (slot : JobId) (state : JobState) (length : Nat)
  | pageEnded (slot : JobId) (state : JobState) (index count : Nat)
  | jobClosed (slot : JobId) (state : JobState) (count : Nat) (discarded : Bool)
  | jobHeld (slot : JobId) (state : JobState) (atOnce : Bool)
  | jobCancelled (slot : JobId) (state : JobState) (bound : Bool)
  | jobQuery (slot : JobId) (j : Option JobReport)
  | rate (before after : Rate)
  | account (a : AccountReport)
  | snapshot (a : AcctId) (s : Option Snapshot)
  | closeSettings (mode : CloseMode) (edge : EdgeMode) (interval : Nat)
  | closeStarted (epoch closed : BitVec 16)
  | alert (a : AlertReport)
  | alerts (all : List AlertSummary)
  | acknowledged (level : Level) (kinds : List CondKind)
  | profile (before after : Profile)
  deriving DecidableEq, Repr

/-- A reply in the reply queue (R172, R174, R175). -/
structure Reply where
  kind : Byte
  tag : Byte
  status : Status
  summary : Byte
  results : Results
  deriving DecidableEq, Repr

/-- The LINE-TEST in hand (R71, R174). -/
structure TestInHand where
  tag : Byte
  line : LineId
  pattern : List Byte
  deriving DecidableEq, Repr

/-- The Host Link Interface's state (R173 to R175, R182). -/
structure Link where
  phase : Lifephase
  buffer : List ReqFrame
  replies : List Reply
  inHand : Option TestInHand
  refused : Bool
  deriving DecidableEq, Repr

/-- The levels on the nine floor input pins, high being true (R167). They belong to the buttons and the shift wiring
outside; the part samples them at a tick. -/
structure Pins where
  ack : Vector Bool 8
  shift : Bool
  deriving DecidableEq, Repr

/-- The part: the host link, the external DRAM, the levels on its floor inputs, and the room. -/
structure Part where
  link : Link
  dram : List (Nat × Byte)
  pins : Pins
  room : Room
  deriving DecidableEq, Repr

end Sys2Proof.Machine
end

