-- ==== Sys2Proof/Machine/Wire.lean ====
section
/-! DEFINITION. Bytes on the two kinds of link: fields of several bytes, the CRC-16 of the host link (R172), the
CRC-8 of the press link (R74), and the request frame inside one SPI transfer (R171, R172, R173). -/

namespace Sys2Proof.Wire

/-- The number a field spells, most significant byte first (R172, R176, R77). -/
def number (bytes : List Byte) : Nat :=
  bytes.foldl (fun n b => n * 256 + b.toNat) 0

/-- The `width` bytes of a number, most significant byte first. -/
def field : Nat → Nat → List Byte
  | 0, _ => []
  | width + 1, n => field width (n / 256) ++ [BitVec.ofNat 8 n]

/-- One shift of the CRC-16 register, generator 1021h (R172). -/
def shift16 (c : BitVec 16) : BitVec 16 :=
  if c.msb then (c <<< 1) ^^^ 0x1021#16 else c <<< 1

/-- One byte taken into the CRC-16 register (R172). -/
def step16 (c : BitVec 16) (b : Byte) : BitVec 16 :=
  (shift16 ∘ shift16 ∘ shift16 ∘ shift16 ∘ shift16 ∘ shift16 ∘ shift16 ∘ shift16) (c ^^^ (b.setWidth 16 <<< 8))

/-- The CRC-16 of the host link, from FFFFh (R172). -/
def crc16 (bytes : List Byte) : BitVec 16 := bytes.foldl step16 0xFFFF#16

/-- One shift of the CRC-8 register, generator 07h (R74). -/
def shift8 (c : BitVec 8) : BitVec 8 :=
  if c.msb then (c <<< 1) ^^^ 0x07#8 else c <<< 1

/-- One value taken into the CRC-8 register (R74). -/
def step8 (c : BitVec 8) (b : Byte) : BitVec 8 :=
  (shift8 ∘ shift8 ∘ shift8 ∘ shift8 ∘ shift8 ∘ shift8 ∘ shift8 ∘ shift8) (c ^^^ b)

/-- The CRC-8 of the press link, from 00h, over the kind code and then the body (R74). -/
def crc8 (kind : Byte) (body : List Byte) : BitVec 8 := (kind :: body).foldl step8 0x00#8

/-- A request frame as it arrives (R173): complete, or cut off after a length above 2,048. -/
inductive Arrival where
  /-- The declared length exceeds 2,048: the frame arrives with its second length byte. -/
  | overlong (kind tag : Byte)
  /-- The last check byte has been taken in. -/
  | complete (kind tag : Byte) (payload : List Byte) (checkGood : Bool)
  deriving DecidableEq, Repr

/-- The bytes of a transfer from its first C3h on, that byte left off; `none` where there is no C3h (R171). -/
def afterSync : List Byte → Option (List Byte)
  | [] => none
  | b :: rest => if b = 0xC3#8 then some rest else afterSync rest

/-- The request frame of one transfer: the bytes the part takes in on HSI, from the transfer's start; `none` where
HSEL rises before the frame is complete (R171, R172, R173). -/
def arrival (hsi : List Byte) : Option Arrival :=
  match afterSync hsi with
  | some (kind :: tag :: l1 :: l0 :: rest) =>
    let length := number [l1, l0]
    if Config.maxPayload < length then some (.overlong kind tag)
    else if rest.length < length + 2 then none
    else
      let payload := rest.take length
      let check := (rest.drop length).take 2
      some (.complete kind tag payload
        (crc16 (kind :: tag :: l1 :: l0 :: payload) == BitVec.ofNat 16 (number check)))
  | _ => none

/-- The bytes of a frame: request and reply frames share one layout (R172). -/
def frame (kind tag : Byte) (payload : List Byte) : List Byte :=
  let covered := kind :: tag :: (field 2 payload.length ++ payload)
  0xC3#8 :: (covered ++ field 2 (crc16 covered).toNat)

end Sys2Proof.Wire
end

