-- ==== Sys2Proof/Machine/Operands.lean ====
section
/-! DEFINITION. Request kinds (section 11.4) and the payload layout of each kind (R176): the operands of a request,
as the numbers its fields spell. The owners check and clamp them. -/

namespace Sys2Proof.Machine

/-- The request kinds of section 11.4. -/
inductive ReqKind where
  | identify | start | restart | linkStatus | queuePeek | nextNotice
  | setLine | lineQuery | lineTest | setBay | setPattern
  | jobOpen | pageBegin | pageData | pageEnd | jobClose | jobHold | jobRelease | jobCancel | jobQuery | jobReap
  | setRate | accountSet | accountRead | accountDelete | setClose | closePeriod
  | alertQuery | alertAck | setEscalation
  deriving DecidableEq, Repr

/-- The code of a request kind (section 11.4). -/
def ReqKind.code : ReqKind → Byte
  | .identify => 0x01
  | .start => 0x02
  | .restart => 0x03
  | .linkStatus => 0x04
  | .queuePeek => 0x05
  | .nextNotice => 0x06
  | .setLine => 0x10
  | .lineQuery => 0x11
  | .lineTest => 0x12
  | .setBay => 0x13
  | .setPattern => 0x14
  | .jobOpen => 0x20
  | .pageBegin => 0x21
  | .pageData => 0x22
  | .pageEnd => 0x23
  | .jobClose => 0x24
  | .jobHold => 0x25
  | .jobRelease => 0x26
  | .jobCancel => 0x27
  | .jobQuery => 0x28
  | .jobReap => 0x29
  | .setRate => 0x30
  | .accountSet => 0x31
  | .accountRead => 0x32
  | .accountDelete => 0x33
  | .setClose => 0x34
  | .closePeriod => 0x35
  | .alertQuery => 0x40
  | .alertAck => 0x41
  | .setEscalation => 0x42

/-- Every kind that section 11.4 lists. -/
def ReqKind.all : List ReqKind :=
  [.identify, .start, .restart, .linkStatus, .queuePeek, .nextNotice, .setLine, .lineQuery, .lineTest, .setBay,
   .setPattern, .jobOpen, .pageBegin, .pageData, .pageEnd, .jobClose, .jobHold, .jobRelease, .jobCancel, .jobQuery,
   .jobReap, .setRate, .accountSet, .accountRead, .accountDelete, .setClose, .closePeriod, .alertQuery, .alertAck,
   .setEscalation]

/-- The kind code is listed in section 11.4 (R173). -/
def listedKind (kind : Byte) : Bool := ReqKind.all.any fun k => k.code == kind

/-- Refused with NOT_RUNNING in UNCONFIGURED (R174). -/
def ReqKind.needsRunning : ReqKind → Bool
  | .restart | .lineTest | .alertAck | .closePeriod => true
  | .jobOpen | .pageBegin | .pageData | .pageEnd | .jobClose | .jobHold | .jobRelease | .jobCancel | .jobReap => true
  | .identify | .start | .linkStatus | .queuePeek | .nextNotice | .setLine | .lineQuery | .setBay | .setPattern
  | .jobQuery | .setRate | .accountSet | .accountRead | .accountDelete | .setClose | .alertQuery
  | .setEscalation => false

/-! ## Layouts (R176) -/

/-- The numbers of fields of these widths, where the payload has exactly their length. -/
def fields : List Nat → List Byte → Option (List Nat)
  | [], [] => some []
  | [], _ :: _ => none
  | w :: ws, bytes =>
    if bytes.length < w then none else (fields ws (bytes.drop w)).map fun ns => Wire.number (bytes.take w) :: ns

/-- Bit `i` of a number. -/
def bit (n i : Nat) : Bool := n.testBit i

/-- SET-LINE: the line, the two mode flags and the groups present (R60, R176). -/
structure SetLineArgs where
  line : Nat
  enable : Bool
  loopback : Bool
  character : Option (Nat × Nat)
  rate : Option (Nat × Nat)
  protocol : Option (Nat × Nat × Nat)
  counting : Option (Nat × Nat × Nat)
  deriving DecidableEq, Repr

/-- A group of two fields taken from the front, if present. -/
def group2 (present : Bool) (ns : List Nat) : Option (Nat × Nat) × List Nat :=
  match present, ns with
  | true, a :: b :: rest => (some (a, b), rest)
  | _, ns => (none, ns)

/-- A group of three fields taken from the front, if present. -/
def group3 (present : Bool) (ns : List Nat) : Option (Nat × Nat × Nat) × List Nat :=
  match present, ns with
  | true, a :: b :: c :: rest => (some (a, b, c), rest)
  | _, ns => (none, ns)

/-- The widths of the groups that the flags say are present (R176). -/
def groupWidths (flags : Nat) : List Nat :=
  (if bit flags 4 then [1, 1] else []) ++ (if bit flags 5 then [1, 1] else []) ++
    (if bit flags 6 then [1, 2, 2] else []) ++ (if bit flags 7 then [1, 4, 2] else [])

/-- SET-LINE's payload (R176). -/
def parseSetLine (payload : List Byte) : Option SetLineArgs :=
  match payload with
  | line :: flags :: rest =>
    (fields (groupWidths flags.toNat) rest).map fun ns =>
      let (character, ns) := group2 (bit flags.toNat 4) ns
      let (rate, ns) := group2 (bit flags.toNat 5) ns
      let (protocol, ns) := group3 (bit flags.toNat 6) ns
      let (counting, _) := group3 (bit flags.toNat 7) ns
      { line := line.toNat, enable := bit flags.toNat 0, loopback := bit flags.toNat 1, character := character,
        rate := rate, protocol := protocol, counting := counting }
  | _ => none

/-- JOB-OPEN's payload (R176). -/
structure JobOpenArgs where
  tag : Nat
  account : Nat
  targetKind : Nat
  target : Nat
  cls : Nat
  copies : Nat
  colour : Nat
  duplex : Bool
  earlyStart : Bool
  splitAllowed : Bool
  media : Nat
  deriving DecidableEq, Repr

/-- JOB-OPEN's payload (R176). -/
def parseJobOpen (payload : List Byte) : Option JobOpenArgs :=
  match fields [4, 2, 1, 1, 1, 2, 1, 1, 2] payload with
  | some [tag, account, kind, target, cls, copies, colour, flags, media] =>
    some { tag := tag, account := account, targetKind := kind, target := target, cls := cls, copies := copies,
           colour := colour, duplex := bit flags 0, earlyStart := bit flags 1, splitAllowed := bit flags 2,
           media := media }
  | _ => none

/-- PAGE-BEGIN's payload; the back coverage is absent in a payload of 6 bytes (R176). -/
structure PageBeginArgs where
  slot : Nat
  media : Nat
  sides : Nat
  colour : Nat
  front : Nat
  back : Option Nat
  deriving DecidableEq, Repr

/-- PAGE-BEGIN's payload (R176). -/
def parsePageBegin (payload : List Byte) : Option PageBeginArgs :=
  match fields [2, 1, 1, 1, 1, 1] payload with
  | some [slot, media, sides, colour, front, back] =>
    some { slot := slot, media := media, sides := sides, colour := colour, front := front, back := some back }
  | _ =>
    match fields [2, 1, 1, 1, 1] payload with
    | some [slot, media, sides, colour, front] =>
      some { slot := slot, media := media, sides := sides, colour := colour, front := front, back := none }
    | _ => none

/-- PAGE-DATA's payload: the slot and the rest (R176). -/
def parsePageData (payload : List Byte) : Option (Nat × List Byte) :=
  match payload with
  | s1 :: s0 :: rest => some (Wire.number [s1, s0], rest)
  | _ => none

/-- A payload that is one slot of two bytes (R176). -/
def parseSlot (payload : List Byte) : Option Nat :=
  match fields [2] payload with
  | some [slot] => some slot
  | _ => none

/-- ACCOUNT-DELETE's payload: one account of two bytes (R176). -/
def parseAccount (payload : List Byte) : Option Nat :=
  match fields [2] payload with
  | some [account] => some account
  | _ => none

/-- A payload that is one byte (R176). -/
def parseByte (payload : List Byte) : Option Nat :=
  match fields [1] payload with
  | some [n] => some n
  | _ => none

/-- LINE-QUERY's payload: line and clear flag (R176). -/
def parseLineQuery (payload : List Byte) : Option (Nat × Bool) :=
  match fields [1, 1] payload with
  | some [line, clear] => some (line, clear != 0)
  | _ => none

/-- LINE-TEST's payload: line and pattern (R176). -/
def parseLineTest (payload : List Byte) : Option (Nat × List Byte) :=
  match payload with
  | line :: rest => some (line.toNat, rest)
  | [] => none

/-- SET-BAY's payload: bay, member set, timeout (R176). -/
def parseSetBay (payload : List Byte) : Option (Nat × Nat × Nat) :=
  match fields [1, 3, 2] payload with
  | some [bay, members, timeout] => some (bay, members, timeout)
  | _ => none

/-- SET-PATTERN's payload: item and two values (R176). -/
def parseSetPattern (payload : List Byte) : Option (Nat × Nat × Nat) :=
  match fields [1, 2, 2] payload with
  | some [item, first, second] => some (item, first, second)
  | _ => none

/-- SET-RATE's payload: media class, colour mode, base, ksur (R176). -/
def parseSetRate (payload : List Byte) : Option (Nat × Nat × Nat × Nat) :=
  match fields [1, 1, 4, 4] payload with
  | some [media, colour, base, ksur] => some (media, colour, base, ksur)
  | _ => none

/-- ACCOUNT-SET's payload (R176). -/
structure AccountSetArgs where
  account : Nat
  mode : Nat
  limit : Nat
  watermark : Nat
  factor : Nat
  deriving DecidableEq, Repr

/-- ACCOUNT-SET's payload (R176). -/
def parseAccountSet (payload : List Byte) : Option AccountSetArgs :=
  match fields [2, 1, 4, 1, 2] payload with
  | some [account, mode, limit, watermark, factor] =>
    some { account := account, mode := mode, limit := limit, watermark := watermark, factor := factor }
  | _ => none

/-- ACCOUNT-READ's payload: account and view (R176). -/
def parseAccountRead (payload : List Byte) : Option (Nat × Nat) :=
  match fields [2, 1] payload with
  | some [account, view] => some (account, view)
  | _ => none

/-- SET-CLOSE's payload: mode, edge, interval (R176). -/
def parseSetClose (payload : List Byte) : Option (Nat × Nat × Nat) :=
  match fields [1, 1, 2] payload with
  | some [mode, edge, interval] => some (mode, edge, interval)
  | _ => none

/-- SET-ESCALATION's payload: kind, t12, t23, failover delay (R176). -/
def parseSetEscalation (payload : List Byte) : Option (Nat × Nat × Nat × Nat) :=
  match fields [1, 2, 2, 2] payload with
  | some [kind, t12, t23, failover] => some (kind, t12, t23, failover)
  | _ => none

/-- An empty payload (R176). -/
def parseEmpty (payload : List Byte) : Option Unit := if payload.isEmpty then some () else none

end Sys2Proof.Machine
end

