-- ==== Sys2Proof/Machine/PowerOn.lean ====
section
/-! DEFINITION. The power-on values of every block (R24, R37, R56, R73, R97, R98, R129, R139, R161, R162, R170,
R185). Values the spec does not state (the STRAP sample before it is taken, the TAKE level before it is seen, the
input filters before UNCONFIGURED) are DESIGN CHOICES, log entry 4. -/

namespace Sys2Proof.Machine

/-- Format and rate at power-on (R73). -/
def Format.powerOn : Format := { parity := .none, twoStops := false, p := 0, k := 8 }

/-- Protocol settings at power-on (R97). -/
def Protocol.powerOn : Protocol := { depth := 4, silence := 5000, poll := 1000 }

/-- Counting state at power-on (R139). -/
def Counting.powerOn : Counting :=
  { source := .exit, offset := 0, tolerance := 2, baseline := 0, tally := 0, last := 0, latch := none }

/-- No error mark set (R73). -/
def Errors.clear : Errors := { parity := false, framing := false, brk := false, overrun := false }

/-- A filter preset to mark, or high, with its history all the same (R63, R167). -/
def Filter.preset : Filter := { level := true, run := 0 }

/-- The receiver while stopped: nothing received, nothing queued (R73, R61). -/
def Receiver.stopped : Receiver :=
  { cond := .stopped, filter := Filter.preset, asm := .hunting, queue := [], path := [] }

/-- The receiver as R61 presets it: hunting for a start bit, nothing received, nothing queued. -/
def Receiver.fresh : Receiver :=
  { cond := .hunting, filter := Filter.preset, asm := .hunting, queue := [], path := [] }

/-- The transmitter with nothing due and both stages empty (R73, R97); the TAKE level is DESIGN CHOICE inactive. -/
def Transmitter.powerOn : Transmitter :=
  { due := [], held := [], pollDue := false, sending := [], hold := none, shift := none, gapOwed := false,
    take := false }

/-- A line at power-on (R56, R73, R97, R139, R161). -/
def Line.powerOn : Line :=
  { state := .disabled, mode := .off, bay := none, fmt := Format.powerOn, proto := Protocol.powerOn,
    count := Counting.powerOn, errs := Errors.clear, rx := Receiver.stopped, tx := Transmitter.powerOn,
    att := none, window := [], job := none, turn := 0, started := false, endSent := false, page := none, alert := none,
    silence := none, poll := none, stall := none, echo := none }

/-- The store with every block free (R37); the STRAP sample before STRAP is DESIGN CHOICE 00. -/
def Store.powerOn : Store := { strap := 0, used := [], low := false }

/-- The Meter Unit at power-on (R98, R129). -/
def Meter.powerOn : Meter :=
  { rates := Vector.replicate 48 { base := 0, ksur := 0 }, epoch := 0, scan := none, closeMode := .manual,
    edge := .none, interval := 60, timer := none }

/-- The escalation profiles at power-on (R146), in rank order. -/
def Profile.powerOn : Vector Profile 5 :=
  #v[{ t12 := 30, t23 := 120, failover := 0 }, { t12 := 30, t23 := 120, failover := 0 },
     { t12 := 60, t23 := 300, failover := 0 }, { t12 := 120, t23 := 600, failover := 0 },
     { t12 := 300, t23 := 900, failover := 0 }]

/-- A beacon held dark: selection OFF, generator stopped (R170). -/
def Beacon.stopped : Beacon := { sel := .off, gen := none }

/-- The floor at power-on (R162, R170). -/
def Floor.powerOn : Floor :=
  { patterns := #v[{ period := 1000, onTime := 0 }, { period := 1000, onTime := 1000 },
      { period := 1000, onTime := 500 }, { period := 250, onTime := 125 }, { period := 20, onTime := 5 },
      { period := 2000, onTime := 1800 }],
    levelMap := #v[.slow, .fast, .steady],
    beacons := Vector.replicate 8 Beacon.stopped,
    bell := false,
    ack := Vector.replicate 8 Filter.preset,
    shift := Filter.preset }

/-- The room at power-on; the attention list holds the DEVICE key alone (R185). -/
def Room.powerOn : Room :=
  { attn := [{ src := .device, marks := [.restarted .powerOn] }],
    jobs := Vector.replicate 256 none, freeEntries := Config.pageEntries, store := Store.powerOn,
    stallTimeout := Vector.replicate 8 0, bayQueues := Vector.replicate 8 [], lineQueues := Vector.replicate 24 [],
    lines := Vector.replicate 24 Line.powerOn, meter := Meter.powerOn, accounts := Vector.replicate 512 none,
    snapshots := Vector.replicate 512 none, profiles := Profile.powerOn, ms := 0, floor := Floor.powerOn }

/-- The host link at power-on (R185). -/
def Link.powerOn : Link :=
  { phase := .powerClear, buffer := [], replies := [], inHand := none, refused := false }

/-- The floor inputs before the outside has set one: DESIGN CHOICE high, as released buttons give (log entry 4). -/
def Pins.released : Pins := { ack := Vector.replicate 8 true, shift := true }

/-- The part at power-on, with the DRAM contents given, since they are not cleared (R37), and the levels that stand on
its floor inputs. -/
def Part.powerOn (dram : List (Nat × Byte)) (pins : Pins) : Part :=
  { link := Link.powerOn, dram := dram, pins := pins, room := Room.powerOn }

end Sys2Proof.Machine
end

