-- ==== Sys2Proof/Machine/State.lean ====
section
/-! DEFINITION. The machine's state: the part, and the queue of commands that wait for it; what can stop a step; and
the state right after reset. -/

namespace Sys2Proof.Machine

/-- The machine: the part's blocks, and the waiting commands, first in first out. -/
structure State where
  part : Part
  pending : List Instr
  deriving DecidableEq, Repr

/-- Reasons for which a step stops with a fault. -/
inductive Fault where
  /-- Raised by PAGE_DATA and by CHARACTER_START when a page's chain names a block that the strapped store does not
  have (R25: blocks are 0 to N − 1), so that the DRAM address does not exist. No run from reset meets it, since a
  block is only ever taken from the blocks below N (R26). Safe. -/
  | dramAddress
  deriving DecidableEq, Repr

/-- Reasons for which a command has no meaning. -/
inductive Refusal where
  /-- Raised by no arm: every command of the table has its meaning. Safe. -/
  | notModelled (mnemonic : String)
  deriving DecidableEq, Repr

/-- The machine right after power-on reset, before any command (R182: POWER_CLEAR). Nothing is listed in the DRAM. -/
def State.reset : State := { part := Part.powerOn [] Pins.released, pending := [] }

end Sys2Proof.Machine
end

