-- ==== Sys2Proof/Machine/Ops.lean ====
section
/-! DEFINITION. Named operations over the room's tables and over the DRAM: reading and writing one line, job or
account, setting a mark (R179), and the bytes of the spool store (R25, R27). -/

namespace Sys2Proof.Machine

/-! ## The state around the part -/

/-- The part replaced; the waiting commands stay. -/
def State.setPart (s : State) (p : Part) : State := { s with part := p }

/-- The room changed by `f`. -/
def State.modRoom (s : State) (f : Room → Room) : State := s.setPart { s.part with room := f s.part.room }

/-- The host link changed by `f`. -/
def State.modLink (s : State) (f : Link → Link) : State := s.setPart { s.part with link := f s.part.link }

/-! ## Tables of the room -/

/-- The line PLn. -/
def Room.line (r : Room) (l : LineId) : Line := r.lines.get l

/-- PLn replaced. -/
def Room.setLine (r : Room) (l : LineId) (x : Line) : Room := { r with lines := r.lines.set l.val x l.isLt }

/-- PLn changed by `f`. -/
def Room.modLine (r : Room) (l : LineId) (f : Line → Line) : Room := r.setLine l (f (r.line l))

/-- The job in a slot; `none` while the slot is FREE (R1). -/
def Room.job (r : Room) (j : JobId) : Option Job := r.jobs.get j

/-- A slot replaced. -/
def Room.setJob (r : Room) (j : JobId) (x : Option Job) : Room := { r with jobs := r.jobs.set j.val x j.isLt }

/-- The job in a slot changed by `f`, where there is one. -/
def Room.modJob (r : Room) (j : JobId) (f : Job → Job) : Room :=
  match r.job j with
  | some x => r.setJob j (some (f x))
  | none => r

/-- An account; `none` while ABSENT (R109). -/
def Room.account (r : Room) (a : AcctId) : Option Account := r.accounts.get a

/-- An account replaced. -/
def Room.setAccount (r : Room) (a : AcctId) (x : Option Account) : Room :=
  { r with accounts := r.accounts.set a.val x a.isLt }

/-- An account changed by `f`, where it is ACTIVE. -/
def Room.modAccount (r : Room) (a : AcctId) (f : Account → Account) : Room :=
  match r.account a with
  | some x => r.setAccount a (some (f x))
  | none => r

/-- An account's snapshot; `none` while empty (R128). -/
def Room.snapshot (r : Room) (a : AcctId) : Option Snapshot := r.snapshots.get a

/-- An account's snapshot replaced. -/
def Room.setSnapshot (r : Room) (a : AcctId) (x : Option Snapshot) : Room :=
  { r with snapshots := r.snapshots.set a.val x a.isLt }

/-- The member set of a bay, in ascending line number (R38). -/
def Room.members (r : Room) (b : BayId) : List LineId :=
  (List.finRange 24).filter fun l => (r.line l).bay == some b

/-- A step made for each line in ascending order. -/
def Room.forLines (r : Room) (f : Room → LineId → Room) : Room := (List.finRange 24).foldl f r

/-- A step made for each account in ascending order. -/
def Room.forAccounts (r : Room) (f : Room → AcctId → Room) : Room := (List.finRange 512).foldl f r

/-! ## Marks (R179) -/

/-- A mark's place in the table of section 11.5; marks of one rank are the same mark with another value. -/
def Mark.rank : Mark → Nat
  | .restarted _ => 0
  | .closeDone _ => 1
  | .closeMissed _ _ => 2
  | .storeLow => 3
  | .attached _ => 4
  | .detached => 5
  | .alertOpened _ _ => 6
  | .alertRaised _ => 7
  | .alertClosed _ _ => 8
  | .discrepancy _ => 9
  | .lineErrors => 10
  | .done _ => 11
  | .split _ => 12
  | .cut _ => 13
  | .aborted _ => 14
  | .budgetBlocked _ => 15
  | .watermark _ => 16
  | .exhausted _ => 17
  | .saturated _ => 18

/-- A mark put among a key's marks: not repeated, its value replaced; kept in table order (R179, R180). -/
def putMark (m : Mark) : List Mark → List Mark
  | [] => [m]
  | x :: xs =>
    if m.rank < x.rank then m :: x :: xs
    else if m.rank = x.rank then m :: xs
    else x :: putMark m xs

/-- A mark set on a source: the key keeps its place, or joins at the tail (R179). -/
def putKey (src : Source) (m : Mark) : List Key → List Key
  | [] => [{ src := src, marks := [m] }]
  | k :: ks => if k.src = src then { k with marks := putMark m k.marks } :: ks else k :: putKey src m ks

/-- A block sets a mark on a source (R179). -/
def Room.mark (r : Room) (src : Source) (m : Mark) : Room := { r with attn := putKey src m r.attn }

/-- A key removed from the attention list with its marks, the others closing up (R181). -/
def Room.dropKey (r : Room) (src : Source) : Room := { r with attn := r.attn.filter fun k => k.src ≠ src }

/-! ## Millisecond timers -/

/-- Seconds as milliseconds. -/
def seconds (n : Nat) : Nat := n * 1000

/-- Minutes as milliseconds. -/
def minutes (n : Nat) : Nat := n * 60000

end Sys2Proof.Machine

namespace Sys2Proof.Dram

/-! ## Bytes of the external DRAM: strictly rising addresses, no entry equal to what an unlisted address reads as -/

/-- What an address that nothing has written reads as: DESIGN CHOICE 00h, log entry 5. -/
def unlisted (_address : Nat) : Byte := 0

/-- The byte at an address. -/
def read : List (Nat × Byte) → Nat → Byte
  | [], a => unlisted a
  | (b, v) :: rest, a => if b = a then v else read rest a

/-- A byte written at an address; the list stays rising and lists no unlisted value. -/
def write : List (Nat × Byte) → Nat → Byte → List (Nat × Byte)
  | [], a, v => if v = unlisted a then [] else [(a, v)]
  | (b, w) :: rest, a, v =>
    if a < b then (if v = unlisted a then (b, w) :: rest else (a, v) :: (b, w) :: rest)
    else if a = b then (if v = unlisted a then rest else (a, v) :: rest)
    else (b, w) :: write rest a v

/-- Every listed address is at least `low`, addresses rise strictly, and no entry reads as unlisted. -/
def wfFrom : Nat → List (Nat × Byte) → Bool
  | _, [] => true
  | low, (a, v) :: rest => decide (low ≤ a) && decide (v ≠ unlisted a) && wfFrom (a + 1) rest

/-- The canonical form. -/
def wf (m : List (Nat × Byte)) : Bool := wfFrom 0 m

/-- The DRAM address of byte `k` of a page with this chain, in a store of `blocks` blocks (R25, R27): byte
k mod 8,192 of the block at chain position floor(k / 8,192). -/
def address (blocks : Nat) (chain : List Nat) (k : Nat) : Option Nat :=
  match chain[k / Config.blockBytes]? with
  | some b => if b < blocks then some (b * Config.blockBytes + k % Config.blockBytes) else none
  | none => none

/-- A run of bytes written from byte `k` of a page on (R28); `none` where an address does not exist. -/
def writeRun (blocks : Nat) (chain : List Nat) (m : List (Nat × Byte)) (k : Nat) :
    List Byte → Option (List (Nat × Byte))
  | [] => some m
  | v :: vs =>
    match address blocks chain k with
    | some a => writeRun blocks chain (write m a v) (k + 1) vs
    | none => none

/-- `count` bytes read from byte `k` of a page on (R32); `none` where an address does not exist. -/
def readRun (blocks : Nat) (chain : List Nat) (m : List (Nat × Byte)) (k : Nat) : Nat → Option (List Byte)
  | 0 => some []
  | count + 1 =>
    match address blocks chain k with
    | some a => (readRun blocks chain m (k + 1) count).map fun vs => read m a :: vs
    | none => none

end Sys2Proof.Dram
end

