-- ==== Sys2Proof/Machine/Flags.lean ====
section
/-! DEFINITION. The flags and derived figures the spec computes: free count and store levels (R25, R26), GIVE (R67),
available and watermark level (R110), the discrepancy d (R136), the summary byte (R175), and the codes of statuses. -/

namespace Sys2Proof.Machine

/-! ## Spool store (R25, R26) -/

/-- N, the number of blocks the straps select (R25). -/
def Store.blocks (s : Store) : Nat := 8192 * 2 ^ s.strap.toNat

/-- The free count (R26). -/
def Store.freeCount (s : Store) : Nat := s.blocks - s.used.length

/-- The low level N/16 (R25). -/
def Store.lowLevel (s : Store) : Nat := s.blocks / 16

/-- The re-arm level N/8 (R25). -/
def Store.rearmLevel (s : Store) : Nat := s.blocks / 8

/-! ## Lines -/

/-- The line is in a state in which its receiver and transmitter serve a printer (R67, R72). -/
def LineState.live : LineState → Bool
  | .detached | .idle | .busy | .alert | .recovering => true
  | .disabled | .loopback => false

/-- The line is attached (R79: the attachment record is present in these states). -/
def LineState.attached : LineState → Bool
  | .idle | .busy | .alert | .recovering => true
  | .detached | .disabled | .loopback => false

/-- The inbound frame queue has room (R67). -/
def Receiver.room (x : Receiver) : Bool := decide (x.queue.length < Config.inboundPlaces)

/-- The GIVE pin (R67, R72). -/
def Line.give (x : Line) : Bool := x.state.live && x.rx.room

/-- GIVE as the assembler's gap and the transmitter in LOOPBACK see it: the pin, or the internal GIVE (R70, R75). -/
def Line.giveSeen (x : Line) : Bool :=
  match x.state with
  | .loopback => x.rx.room
  | _ => x.give

/-- Some condition of the kind is in the record (R141). -/
def Alert.has (a : Alert) (k : CondKind) : Bool := a.conds.any fun c => c.kind == k

/-- The silence timer runs (R84): in IDLE, BUSY and RECOVERING, and in ALERT without NO_ANSWER and LINK_DOWN. -/
def Line.watches (x : Line) : Bool :=
  match x.state with
  | .idle | .busy | .recovering => true
  | .alert =>
    match x.alert with
    | some a => !(a.has .noAnswer || a.has .linkDown)
    | none => true
  | .disabled | .detached | .loopback => false

/-- The effective window depth in force, 0 while the line is not attached. -/
def Line.depth (x : Line) : Nat :=
  match x.att with
  | some a => a.window
  | none => 0

/-! ## Input filters (R63, R167) -/

/-- One more sample: the level moves at the eighth consecutive sample against it, and a shorter run is removed
(R63, R167). -/
def Filter.sample (f : Filter) (s : Bool) : Filter :=
  if s = f.level then { f with run := 0 }
  else if f.run + 1 < 8 then { f with run := f.run + 1 }
  else { level := s, run := 0 }

/-! ## Money (R110) -/

/-- The available of an account (R110). -/
def Account.available (a : Account) : Nat := a.limit - (a.consumed + a.held)

/-- The watermark level of an account (R110). -/
def Account.level (a : Account) : Nat := a.limit * a.watermark / 100

/-- A reservation of this charge would be granted now (R44, R116). -/
def Account.affords (a : Account) (charge : Nat) : Bool :=
  match a.mode with
  | .unlimited | .soft => true
  | .hard => decide (charge ≤ a.available)

/-! ## Sheet counting (R136) -/

/-- d = (L − B + offset) − T modulo 2^32 (R136). -/
def Counting.difference (c : Counting) : BitVec 32 := (c.last - c.baseline + c.offset) - c.tally

/-- The magnitude of d, read as signed; that of −2,147,483,648 is 2,147,483,648 (R136). -/
def magnitude (d : BitVec 32) : Nat := (signed32 d).natAbs

/-! ## Alerts -/

/-- The rank of a condition kind, 0 the highest (R141). -/
def CondKind.rank : CondKind → Fin 5
  | .linkDown => 0
  | .noAnswer => 1
  | .jam => 2
  | .coverOpen => 3
  | .mediaOut => 4

/-- The kind is a loss kind (R141, R145). -/
def CondKind.isLoss : CondKind → Bool
  | .mediaOut => false
  | .linkDown | .noAnswer | .jam | .coverOpen => true

/-- The highest-ranked kind among conditions (R141). -/
def highestKind : List Cond → Option CondKind
  | [] => none
  | c :: cs =>
    match highestKind cs with
    | none => some c.kind
    | some k => if c.kind.rank < k.rank then some c.kind else some k

/-- A level's number, 1 to 3. -/
def Level.number : Level → Nat
  | .one => 1
  | .two => 2
  | .three => 3

/-- The level after a raise (R146). -/
def Level.next : Level → Level
  | .one => .two
  | .two => .three
  | .three => .three

/-- A level's place in the level map (R162). -/
def Level.index : Level → Fin 3
  | .one => 0
  | .two => 1
  | .three => 2

/-- Some line has an open alert record (R140, R175). -/
def Room.anyAlert (r : Room) : Bool := (List.finRange 24).any fun l => (r.line l).alert.isSome

/-! ## Host link -/

/-- The kind code of a source in a notice's key (R180). -/
def Source.kindCode : Source → Nat
  | .device => 1
  | .line _ => 2
  | .job _ => 3
  | .account _ => 4

/-- The number of a source in a notice's key; the DEVICE has none (R180). -/
def Source.number : Source → Option Nat
  | .device => none
  | .line l => some l.val
  | .job j => some j.val
  | .account a => some a.val

/-- The code of a status (R174). -/
def Status.code : Status → Nat
  | .ok => 0
  | .clamped => 1
  | .busy => 2
  | .badState => 3
  | .badArg => 4
  | .notFound => 5
  | .noSlot => 6
  | .noSpace => 7
  | .overLimit => 8
  | .notRunning => 9
  | .badCheck => 10
  | .tooLong => 11
  | .unknownKind => 12

/-- The host link answers in these lifephases (R171, R182). -/
def Lifephase.answers : Lifephase → Bool
  | .unconfigured | .running => true
  | .powerClear | .strap => false

/-- A flag as one bit of the summary byte. -/
def bitAt (flag : Bool) (place : Nat) : Nat := if flag then 2 ^ place else 0

/-- The summary byte, from the state as it stands (R175). -/
def Part.summary (p : Part) : Byte :=
  BitVec.ofNat 8
    (bitAt (!p.room.attn.isEmpty) 7 + bitAt p.link.refused 6 + bitAt p.room.store.low 5 +
      bitAt p.room.anyAlert 4 + bitAt (p.link.phase == .running) 3 + p.link.buffer.length)

end Sys2Proof.Machine
end

