-- ==== Sys2Proof/Machine/Floor.lean ====
section
/-! DEFINITION. The Floor Signal Unit: beacon selection (R164), loading a generator (R165), the bell (R166). -/

namespace Sys2Proof.Machine

/-- A pattern's place in the pattern table, and its code (R162, R163). -/
def Pattern.code : Pattern → Fin 6
  | .off => 0
  | .steady => 1
  | .slow => 2
  | .fast => 3
  | .dim => 4
  | .acked => 5

/-- The pattern of a code (R163). -/
def Pattern.ofCode? : Nat → Option Pattern
  | 0 => some .off
  | 1 => some .steady
  | 2 => some .slow
  | 3 => some .fast
  | 4 => some .dim
  | 5 => some .acked
  | _ => none

/-- The open records of a bay's member lines (R164). -/
def Room.bayAlerts (r : Room) (b : BayId) : List Alert :=
  (r.members b).filterMap fun l => (r.line l).alert

/-- The highest level among the unacknowledged records (R164). -/
def highestUnacked : List Alert → Option Level
  | [] => none
  | a :: rest =>
    if a.acked then highestUnacked rest
    else
      match highestUnacked rest with
      | none => some a.level
      | some v => if v.number < a.level.number then some a.level else some v

/-- A bay's beacon selection (R164). -/
def Room.selection (r : Room) (b : BayId) : Pattern :=
  match highestUnacked (r.bayAlerts b) with
  | some v => r.floor.levelMap.get v.index
  | none => if (r.bayAlerts b).isEmpty then .off else .acked

/-- Some open record is at level 3 and not acknowledged (R166). -/
def Room.bellRings (r : Room) : Bool :=
  (List.finRange 24).any fun l =>
    match (r.line l).alert with
    | some a => a.level == .three && !a.acked
    | none => false

/-- A generator that has just loaded a pattern from the table (R165). -/
def Floor.loaded (f : Floor) (p : Pattern) : Generator :=
  { running := p, period := (f.patterns.get p.code).period, onTime := (f.patterns.get p.code).onTime, pos := 0 }

/-- A beacon takes a selection: a generator running OFF loads another pattern at once (R164, R165). -/
def Beacon.select (k : Beacon) (f : Floor) (p : Pattern) : Beacon :=
  match k.gen with
  | some g => if g.running = .off ∧ p ≠ .off then { sel := p, gen := some (f.loaded p) } else { k with sel := p }
  | none => { k with sel := p }

/-- The beacon of a bay replaced. -/
def Floor.setBeacon (f : Floor) (b : BayId) (k : Beacon) : Floor :=
  { f with beacons := f.beacons.set b.val k b.isLt }

/-- A bay's selection is made afresh (R164). -/
def Room.reselect (r : Room) (b : BayId) : Room :=
  { r with floor := r.floor.setBeacon b ((r.floor.beacons.get b).select r.floor (r.selection b)) }

/-- Every bay's selection and the bell are made afresh (R164, R166). -/
def Room.refreshFloor (r : Room) : Room :=
  let r := (List.finRange 8).foldl Room.reselect r
  { r with floor := { r.floor with bell := r.bellRings } }

end Sys2Proof.Machine
end

