-- ==== Sys2Proof/Machine/Charge.lean ====
section
/-! DEFINITION. The page charge (R98 to R104) and the counts of an instance (R107). -/

namespace Sys2Proof.Machine

/-- The code of a colour mode (R77, R99). -/
def ColourMode.code : ColourMode → Fin 3
  | .mono => 0
  | .spot => 1
  | .full => 2

/-- The place of a cell in the rate table (R98). -/
def cellOf (media : Fin 16) (colour : ColourMode) : Fin 48 :=
  ⟨3 * media.val + colour.code.val, by omega⟩

/-- The rate table cell of a media class and colour mode (R98). -/
def Meter.rate (m : Meter) (media : Fin 16) (colour : ColourMode) : Rate := m.rates.get (cellOf media colour)

/-- The sides of a page (R3: a back coverage is stored exactly when sides is 2). -/
def Descriptor.sides (d : Descriptor) : Nat := if d.back.isSome then 2 else 1

/-- Stage 1: the surcharge of one printed side (R102). -/
def surcharge (coverage ksur : Nat) : Nat := (coverage * ksur + 50) / 100

/-- Stage 2: the cost of one printed side (R103). -/
def sideCost (rate : Rate) (coverage : Nat) : Nat := rate.base + surcharge coverage rate.ksur

/-- Stage 3: the raw cost of a page (R103). -/
def rawCost (rate : Rate) (d : Descriptor) : Nat :=
  sideCost rate d.front +
    match d.back with
    | some back => sideCost rate back
    | none => 0

/-- Stage 4: the charge (R104). -/
def charge (rate : Rate) (factor : Nat) (d : Descriptor) : Nat := (rawCost rate d * factor + 128) / 256

/-- The charge of a page for an account, with the rates now in force (R101, R105). -/
def Room.chargeOf (r : Room) (a : Account) (d : Descriptor) : Nat :=
  charge (r.meter.rate d.media d.colour) a.factor d

end Sys2Proof.Machine
end

