-- ==== Sys2Proof/Machine/Store.lean ====
section
/-! DEFINITION. The Spool Store Controller and the page entry pool: taking the lowest free block (R26, R28),
releasing a chain (R30), and the STORE_LOW condition (R35, R36). -/

namespace Sys2Proof.Machine

/-- The lowest number from `i` on that a rising list of used blocks lacks. -/
def lowestFree : Nat → List Nat → Nat
  | i, [] => i
  | i, u :: us => if u = i then lowestFree (i + 1) us else i

/-- A block put in its place in a rising list. -/
def insertBlock (b : Nat) : List Nat → List Nat
  | [] => [b]
  | u :: us => if b < u then b :: u :: us else if b = u then u :: us else u :: insertBlock b us

/-- The SSC takes the lowest-numbered free block (R26); the take may set STORE_LOW (R35). -/
def Room.takeBlock (r : Room) : Option (Nat × Room) :=
  if r.store.freeCount = 0 then none
  else
    let b := lowestFree 0 r.store.used
    let store : Store := { r.store with used := insertBlock b r.store.used }
    if store.freeCount < store.lowLevel ∧ store.low = false then
      some (b, { r with store := { store with low := true } }.mark .device .storeLow)
    else some (b, { r with store := store })

/-- The store after a chain has returned to the pool (R30), re-armed at N/8 (R36). -/
def Store.release (s : Store) (chain : List Nat) : Store :=
  if chain.isEmpty then s
  else
    let store : Store := { s with used := s.used.filter fun b => !chain.contains b }
    if store.rearmLevel ≤ store.freeCount then { store with low := false } else store

/-- A page entry returns to the pool, and its chain to the free pool (R2, R30). -/
def Room.returnEntry (r : Room) (e : PageEntry) : Room :=
  { r with store := r.store.release e.chain, freeEntries := r.freeEntries + 1 }

/-- Several page entries return, in order. -/
def Room.returnEntries (r : Room) (es : List PageEntry) : Room := es.foldl Room.returnEntry r

/-- The room of a chain: the bytes its last block can still take (R27). -/
def PageEntry.spare (e : PageEntry) : Nat := Config.blockBytes * e.chain.length - e.length

end Sys2Proof.Machine
end

