-- ==== Sys2Proof/Machine/Queues.lean ====
section
/-! DEFINITION. Jobs' positions (R4), the dispatch queues and their order (R40 to R42), and the account side of a
quote: affordability, the blocked flag (R44), the watermark (R120) and the reservation (R116). -/

namespace Sys2Proof.Machine

/-! ## Next-send position (R4) -/

/-- The step of R4 from (copy, page), for a job with this page count and intake. -/
def Job.stepFrom (x : Job) (copy page : Nat) : Pos :=
  if page < x.pageCount then .at copy (page + 1)
  else if x.intakeOpen then .at copy (page + 1)
  else if copy < x.copies then .at (copy + 1) 1
  else .done

/-- The page entry of a sendable position (R4). -/
def Job.nextEntry (x : Job) : Option PageEntry :=
  match x.pos with
  | .at copy page =>
    if copy ≤ x.copies ∧ page ≤ x.pageCount then x.pages.find? fun e => e.index == page else none
  | .done => none

/-- The position is waiting: (copy, page count + 1) with intake OPEN (R4). -/
def Job.waiting (x : Job) : Bool :=
  match x.pos with
  | .at _ page => x.intakeOpen && decide (page = x.pageCount + 1)
  | .done => false

/-- Intake is CLOSED and every instance is confirmed (R21). -/
def Job.finished (x : Job) : Bool :=
  !x.intakeOpen && decide (x.confirmed = x.copies * x.pageCount) && decide (x.state ≠ .aborted)

/-! ## Queues (R40 to R42) -/

/-- A class's place in dispatch order (R41). -/
def JobClass.rank : JobClass → Nat
  | .rush => 0
  | .standard => 1
  | .bulk => 2

/-- The class rank of the job in a slot. -/
def Room.classRank (r : Room) (j : JobId) : Nat :=
  match r.job j with
  | some x => x.cls.rank
  | none => 3

/-- The queue of a target (R40). -/
def Room.queue (r : Room) : Target → List JobId
  | .bay b => r.bayQueues.get b
  | .line l => r.lineQueues.get l

/-- The queue of a target replaced. -/
def Room.setQueue (r : Room) (t : Target) (q : List JobId) : Room :=
  match t with
  | .bay b => { r with bayQueues := r.bayQueues.set b.val q b.isLt }
  | .line l => { r with lineQueues := r.lineQueues.set l.val q l.isLt }

/-- The jobs that stay ahead of a job entering a queue (R41): those of a higher class, and with run count 0 those of
its own class too. -/
def Room.staysAhead (r : Room) (x : Job) (k : JobId) : Bool :=
  if x.runCount = 0 then decide (r.classRank k ≤ x.cls.rank) else decide (r.classRank k < x.cls.rank)

/-- A job enters the queue of its target at its place (R40, R41). -/
def Room.enterQueue (r : Room) (j : JobId) (x : Job) : Room :=
  let q := r.queue x.target
  r.setQueue x.target (q.takeWhile (r.staysAhead x) ++ j :: q.dropWhile (r.staysAhead x))

/-- A job leaves the queue of its target; the others close up (R42). -/
def Room.leaveQueue (r : Room) (j : JobId) (x : Job) : Room :=
  r.setQueue x.target ((r.queue x.target).filter fun k => k ≠ j)

/-! ## Accounts: watermark and reservation -/

/-- The MU evaluates an account's watermark (R120). -/
def Room.evalWatermark (r : Room) (a : AcctId) : Room :=
  match r.account a with
  | none => r
  | some x =>
    match x.mode with
    | .unlimited => r.setAccount a (some { x with crossed := false })
    | .soft | .hard =>
      if x.available < x.level ∧ x.crossed = false then
        (r.setAccount a (some { x with crossed := true })).mark (.account a) (.watermark x.available)
      else if x.level ≤ x.available ∧ x.crossed = true then
        r.setAccount a (some { x with crossed := false })
      else r

/-- A granted reservation raises held and evaluates the watermark (R116). -/
def Room.reserve (r : Room) (a : AcctId) (charge : Nat) : Room :=
  (r.modAccount a fun x => { x with held := x.held + charge }).evalWatermark a

/-! ## Quote (R44, R105) -/

/-- The quote on a job's next instance: its charge, and whether a reservation of it would be granted now. -/
def Room.quote (r : Room) (x : Job) : Option (Nat × Bool) :=
  match x.nextEntry, r.account x.account with
  | some e, some a => some (r.chargeOf a e.desc, a.affords (r.chargeOf a e.desc))
  | _, _ => none

/-- The DU tests a queued job's affordability and keeps its blocked flag and mark (R44). -/
def Room.quoteQueued (r : Room) (j : JobId) (x : Job) : Room × Bool :=
  match r.quote x with
  | some (_, true) => (r.setJob j (some { x with blocked := false }), true)
  | some (c, false) =>
    if x.blocked then (r, false)
    else ((r.setJob j (some { x with blocked := true })).mark (.job j) (.budgetBlocked c), false)
  | none => (r, false)

end Sys2Proof.Machine
end

