-- ==== Sys2Proof/Machine/Transmit.lean ====
section
/-! DEFINITION. The sending side of a line: the characters of a frame (R74, R77), offering them to the holding stage
(R62, R78), frames becoming due, held or abandoned (R78, R92, R93), and the line's timers following its state
(R84, R85). -/

namespace Sys2Proof.Machine

/-! ## Frames as characters (R74, R77) -/

/-- The code of an outbound kind (R77). -/
def OutFrame.code : OutFrame → Byte
  | .welcome _ _ => 0x10
  | .jobStart _ _ _ => 0x11
  | .pageOpen _ _ _ => 0x12
  | .data _ => 0x13
  | .pageClose _ => 0x14
  | .jobEnd _ => 0x15
  | .resync _ => 0x16
  | .poll => 0x17
  | .test _ => 0x18

/-- The code of a JOB-END reason (R77). -/
def EndReason.code : EndReason → Byte
  | .complete => 0
  | .cut => 1
  | .abort => 2

/-- The body of an outbound frame (R77). -/
def OutFrame.body : OutFrame → List Byte
  | .welcome l w => Wire.field 1 l.val ++ Wire.field 1 w
  | .jobStart tag run _ => Wire.field 4 tag.toNat ++ Wire.field 2 run
  | .pageOpen copy page d =>
    Wire.field 2 copy ++ Wire.field 2 page ++ Wire.field 1 d.media.val ++ Wire.field 1 d.sides ++
      Wire.field 1 d.colour.code.val ++ Wire.field 1 d.front ++ Wire.field 1 (d.back.getD 0)
  | .data bytes => bytes
  | .pageClose length => Wire.field 4 length
  | .jobEnd reason => [reason.code]
  | .resync _ => []
  | .poll => []
  | .test pattern => pattern

/-- What the sending of a frame's END brings about. -/
def OutFrame.endRole : OutFrame → CharRole
  | .jobStart _ _ turn => .ends (.jobStart turn)
  | .pageClose _ => .ends .pageClose
  | .resync turn => .ends (.resync turn)
  | .test _ => .ends .test
  | .welcome _ _ | .pageOpen _ _ _ | .data _ | .jobEnd _ | .poll => .plain

/-- The BEGIN character of a frame (R74). -/
def OutFrame.beginChar (f : OutFrame) : TxChar :=
  { value := f.code, marker := true, role := if f = .poll then .pollBegin else .plain }

/-- The characters of a frame after its BEGIN (R74). -/
def OutFrame.restChars (f : OutFrame) : List TxChar :=
  f.body.map (fun b => { value := b, marker := false, role := .plain }) ++
    [{ value := Wire.crc8 f.code f.body, marker := true, role := f.endRole }]

/-! ## Offering (R62, R78) -/

/-- The frame's BEGIN goes into the holding stage; a PAGE-OPEN opens the read cursor at offset 0 (R32). -/
def Line.beginFrame (x : Line) (f : OutFrame) : Line :=
  let x := { x with tx := { x.tx with hold := some f.beginChar, sending := f.restChars } }
  match f with
  | .pageOpen _ _ _ => { x with page := x.page.map fun pg => { pg with cursor := some 0 } }
  | _ => x

/-- The PLP offers the next character when the holding stage is empty: the rest of the frame in transmission, else a
due POLL, else the first frame due (R62, R78). -/
def Line.offer (x : Line) : Line :=
  match x.tx.hold with
  | some _ => x
  | none =>
    match x.tx.sending with
    | c :: cs => { x with tx := { x.tx with hold := some c, sending := cs } }
    | [] =>
      if x.tx.pollDue then x.beginFrame .poll
      else
        match x.tx.due with
        | f :: fs => ({ x with tx := { x.tx with due := fs } }).beginFrame f
        | [] => x

/-- A frame becomes due behind the others (R78). -/
def Line.push (x : Line) (f : OutFrame) : Line :=
  ({ x with tx := { x.tx with due := x.tx.due ++ [f] } }).offer

/-- A frame that becomes due while a record is open is held until the record closes (R88, R93). -/
def Line.pushOrHold (x : Line) (f : OutFrame) : Line :=
  match x.state with
  | .alert => { x with tx := { x.tx with held := x.tx.held ++ [f] } }
  | _ => x.push f

/-- The frames that a MEDIA_OUT does not hold back: POLL, WELCOME, and the rest of a page begun (R93, R79). A DATA or a
PAGE-CLOSE is due only once its page's PAGE-OPEN has been begun; a PAGE-OPEN not begun is held. -/
def OutFrame.passesPause : OutFrame → Bool
  | .welcome _ _ | .data _ | .pageClose _ | .poll => true
  | .jobStart _ _ _ | .pageOpen _ _ _ | .jobEnd _ | .resync _ | .test _ => false

/-- The frames due and not begun are held while the record is open, but for those that pass (R93). -/
def Line.holdFrames (x : Line) : Line :=
  { x with tx := { x.tx with
      due := x.tx.due.filter OutFrame.passesPause
      held := x.tx.held ++ x.tx.due.filter fun f => !f.passesPause } }

/-- The frame in transmission is abandoned and every frame due is dropped (R78, R92). A due POLL stays due. The
character in the shift stage goes on to its last stop bit, but ends no frame any more. -/
def Transmitter.abandon (t : Transmitter) : Transmitter :=
  { t with
    due := []
    held := []
    sending := []
    hold := none
    shift := t.shift.map fun c => { c with role := .plain }
    gapOwed := t.gapOwed || t.hold.isSome || !t.sending.isEmpty || t.shift.isSome }

/-- Both stages emptied, the frame in transmission cut short, every frame due dropped (R61, R96, R97). -/
def Transmitter.cutShort (t : Transmitter) : Transmitter :=
  { Transmitter.powerOn with take := t.take }

/-! ## Timers that follow the line's state (R84, R85) -/

/-- The silence and poll timers start or stop with the line's state; a timer already running runs on. -/
def Line.sync (x : Line) : Line :=
  { x with
    silence := if x.watches then some (x.silence.getD x.proto.silence) else none
    poll := if x.state.attached then some (x.poll.getD x.proto.poll) else none }

/-- A good frame taken reloads the silence timer where it runs (R84). -/
def Line.heard (x : Line) : Line := if x.watches then { x with silence := some x.proto.silence } else x

end Sys2Proof.Machine
end

