-- ==== Sys2Proof/Machine/Opening.lean ====
section
/-! DEFINITION. Opening the next instance on a line (R18, R86, R87, R116), stalls and the bay stall timer (R49, R50),
and the JOB-END(COMPLETE) of a draining line (R88). -/

namespace Sys2Proof.Machine

/-- The bay stall timer as it is started: the bay's timeout, or not at all for 0 or a bay-less line (R50). -/
def Room.stallLoad (r : Room) (l : LineId) : Option Nat :=
  match (r.line l).bay with
  | some b => if r.stallTimeout.get b = 0 then none else some (seconds (r.stallTimeout.get b))
  | none => none

/-- The bound job stalls and the line's stall timer starts (R49, R50). -/
def Room.stallJob (r : Room) (l : LineId) (j : JobId) (reason : StallReason) : Room :=
  (r.modJob j fun x => { x with state := .stalled, stallReason := some reason }).modLine l
    fun x => { x with stall := r.stallLoad l }

/-- The line's side of the conditions for asking to open an instance (R86). -/
def Line.mayOpen (x : Line) : Bool :=
  x.state == .busy && x.started && x.page.isNone && decide (x.window.length < x.depth) && !x.endSent

/-- The job's side of the conditions for asking to open an instance (R86). -/
def Job.mayOpen (x : Job) : Bool := x.state == .active && !x.holdPending && !x.cutPending

/-- The line gains a window entry, and the page's frames become due, PAGE-OPEN first (R86, R87). -/
def Line.opened (x : Line) (j : JobId) (a : AcctId) (e : PageEntry) (copy page charge : Nat) : Line :=
  ({ x with
      window := x.window ++ [{ job := j, copy := copy, page := page, charge := charge, account := a,
                               closed := false, desc := e.desc }]
      page := some { job := j, copy := copy, entry := e, cursor := none, closing := false,
                     deferred := false } } : Line).push (.pageOpen copy page e.desc)

/-- The instance at a sendable position is opened when its reservation is granted; otherwise EXHAUSTED is marked and
the job stalls for BUDGET (R18, R49, R116). -/
def Room.openOrStall (r : Room) (l : LineId) (j : JobId) (x : Job) (e : PageEntry) (copy page : Nat) : Room :=
  match r.account x.account with
  | none => r
  | some a =>
    let c := r.chargeOf a e.desc
    if a.affords c then
      ((r.reserve x.account c).setJob j (some { x with pos := x.stepFrom copy page })).modLine l
        fun y => y.opened j x.account e copy page c
    else (r.mark (.account x.account) (.exhausted c)).stallJob l j .budget

/-- The PLP asks to open the next instance of its bound job (R86, R18, R49). -/
def Room.tryOpen (r : Room) (l : LineId) : Room :=
  match (r.line l).job with
  | none => r
  | some j =>
    match r.job j with
    | none => r
    | some x =>
      if (r.line l).mayOpen && x.mayOpen then
        match x.pos, x.nextEntry with
        | .at copy page, some e => r.openOrStall l j x e copy page
        | .at _ _, none => if x.waiting then r.stallJob l j .data else r
        | .done, _ => r
      else r

/-- JOB-END(COMPLETE) is owed and no page is in transmission (R88): the job is at END, and the run has not sent it. A
JOB-CANCEL does not take the debt away: JOB-END(ABORT) follows it (R88). A cut does: log entry 17. -/
def Room.endOwed (r : Room) (l : LineId) : Bool :=
  let y := r.line l
  y.page.isNone && y.started && !y.endSent &&
    match y.job with
    | some j =>
      match r.job j with
      | some x => x.pos == .done && !x.cutPending
      | none => false
    | none => false

/-- A JOB-END(COMPLETE) owed becomes due (R88); a BUSY line sends it, and so does a line finishing a page under a
pause (R93). -/
def Room.sendOwedEnd (r : Room) (l : LineId) : Room :=
  if r.endOwed l then r.modLine l fun y => ({ y with endSent := true } : Line).push (.jobEnd .complete) else r

/-- The job that the line holds is ABORTED. -/
def Room.jobAborted (r : Room) (l : LineId) : Bool :=
  match (r.line l).job with
  | some j => (r.job j).any fun x => x.state == .aborted
  | none => false

/-- On a BUSY line, a JOB-END(COMPLETE) that is owed while no page is in transmission becomes due (R88); a job cancelled
meanwhile leaves with JOB-END(ABORT) alone (R15). -/
def Room.drain (r : Room) (l : LineId) : Room :=
  if (r.line l).state = .busy ∧ r.jobAborted l = false then r.sendOwedEnd l else r

end Sys2Proof.Machine
end

