-- ==== Sys2Proof/Machine/Arbiter.lean ====
section
/-! DEFINITION. The Dispatch Unit: eligibility (R43), the arbiter from a line's side and from a job's side (R45,
R46), binding (R48), the budget re-examination (R52), and the ends of a binding (R12, R15, R21, R53, R89). -/

namespace Sys2Proof.Machine

/-- A colour level's order NONE, SPOT, FULL (R43). -/
def ColourLevel.rank : ColourLevel → Nat
  | .plain => 0
  | .spot => 1
  | .full => 2

/-- The attachment record covers a job's needs (R43). -/
def Attachment.covers (t : Attachment) (n : Needs) : Bool :=
  decide (n.colour.rank ≤ t.colour.rank) && (!n.duplex || t.duplex) && (n.media &&& t.media == n.media)

/-- The line's printer covers the job's needs (R43). -/
def Line.covers (y : Line) (x : Job) : Bool :=
  match y.att with
  | some t => t.covers x.needs
  | none => false

/-- The arbiter binds a job to a line (R48). Nothing is reserved: the reservation comes when the line opens the first
instance, as R48, R86 and R119 state. R52's closing words, that each binding reserves before the next quote, are followed
for openings alone: DESIGN CHOICE, log entry 40. -/
def Room.bind (r : Room) (l : LineId) (j : JobId) (x : Job) : Room :=
  let run := capAt Config.top16 (x.runCount + 1)
  ((r.leaveQueue j x).setJob j
      (some { x with state := .active, bound := some l, runCount := run, blocked := false })).modLine l
    fun y => (({ y with state := .busy, job := some j, turn := y.turn + 1, started := false,
                        endSent := false } : Line).push (.jobStart x.tag run (y.turn + 1))).sync

/-- The first eligible job of a queue for a line, with the blocked flags of the jobs passed over (R43, R45). -/
def Room.searchQueue (l : LineId) : List JobId → Room → Room × Option (JobId × Job)
  | [], r => (r, none)
  | j :: js, r =>
    match r.job j with
    | none => Room.searchQueue l js r
    | some x =>
      if (r.line l).covers x && x.nextEntry.isSome then
        match r.quoteQueued j x with
        | (r, true) => (r, some (j, x))
        | (r, false) => Room.searchQueue l js r
      else Room.searchQueue l js r

/-- The jobs a line may take, its bay's queue; a bay-less line has none (R45). -/
def Room.bayQueueOf (r : Room) (l : LineId) : List JobId :=
  match (r.line l).bay with
  | some b => r.queue (.bay b)
  | none => []

/-- A line that became IDLE looks for a job: its line queue, then its bay's queue (R45). -/
def Room.arbiterLine (r : Room) (l : LineId) : Room :=
  if (r.line l).state = .idle then
    match Room.searchQueue l (r.queue (.line l)) r with
    | (r, some (j, x)) => r.bind l j x
    | (r, none) =>
      match Room.searchQueue l (r.bayQueueOf l) r with
      | (r, some (j, x)) => r.bind l j x
      | (r, none) => r
  else r

/-- The lines a job may be taken by (R46). -/
def Room.targets (r : Room) : Target → List LineId
  | .bay b => r.members b
  | .line l => [l]

/-- A queued job that became available looks for a line: the lowest-numbered IDLE one whose printer covers it, if
the job is sendable and its one quote succeeds (R46). -/
def Room.arbiterJob (r : Room) (j : JobId) : Room :=
  match r.job j with
  | none => r
  | some x =>
    if x.state = .queued ∧ x.nextEntry.isSome then
      match (r.targets x.target).find? fun l => (r.line l).state == .idle && (r.line l).covers x with
      | none => r
      | some l =>
        match r.quoteQueued j x with
        | (r, true) => r.bind l j x
        | (r, false) => r
    else r

/-- A job enters QUEUED: it takes its place and is offered to the arbiter (R40, R41, R46). -/
def Room.queueJob (r : Room) (j : JobId) (x : Job) : Room :=
  let x := { x with state := .queued, bound := none, holdReason := none, blocked := false }
  ((r.setJob j (some x)).enterQueue j x).arbiterJob j

/-! ## Budget re-examination (R52) -/

/-- Step 1 of R52 for one line: its job, STALLED for BUDGET on the account and not cut-pending, returns to ACTIVE
when its instance is affordable, and its line asks to open it. -/
def Room.recheckStalled (a : AcctId) (r : Room) (l : LineId) : Room :=
  match (r.line l).job with
  | none => r
  | some j =>
    match r.job j with
    | none => r
    | some x =>
      if x.state = .stalled ∧ x.stallReason = some .budget ∧ x.account = a ∧ x.cutPending = false then
        match r.quote x with
        | some (_, true) =>
          ((r.setJob j (some { x with state := .active, stallReason := none })).modLine l
            fun y => { y with stall := none }).tryOpen l
        | _ => r
      else r

/-- Step 2 of R52 for one slot: a queued job with its blocked flag set, billed to the account, is quoted and, when
affordable, offered to the arbiter. A binding reserves nothing, so the next one is quoted against the same money
(DESIGN CHOICE, log entry 40). -/
def Room.recheckBlocked (a : AcctId) (r : Room) (j : JobId) : Room :=
  match r.job j with
  | none => r
  | some x =>
    if x.state = .queued ∧ x.blocked = true ∧ x.account = a then
      match r.quoteQueued j x with
      | (r, true) => r.arbiterJob j
      | (r, false) => r
    else r

/-- The DU re-examines an account's jobs: stalled ones in line order, then blocked queued ones in slot order (R52). -/
def Room.reexamine (r : Room) (a : AcctId) : Room :=
  (List.finRange 256).foldl (Room.recheckBlocked a) (r.forLines (Room.recheckStalled a))

/-! ## The end of a binding -/

/-- The line holds no job any more. -/
def Line.release (y : Line) : Line := { y with job := none, started := false, endSent := false, stall := none }

/-- The line enters IDLE without a job and runs the arbiter (R45). -/
def Room.becomeIdle (r : Room) (l : LineId) : Room :=
  (r.modLine l fun y => ({ y.release with state := .idle } : Line).sync).arbiterLine l

/-- A case of R89 holds for the bound job. -/
def Job.endCase (x : Job) : Bool :=
  x.state == .aborted || x.cutPending || (x.holdPending && x.state != .suspended)

/-- The hold reason of a cut (R53). -/
def StallReason.hold : StallReason → HoldReason
  | .budget => .budget
  | .data => .data

/-- The job record after a JOB-END(CUT) of a cut or of a host hold (R12, R53, R54). -/
def Job.heldBy (x : Job) (reason : HoldReason) : Job :=
  { x with state := .held, bound := none, holdReason := some reason, holdPending := false, stallReason := none,
           cutPending := false }

/-- The bound job leaves its line with JOB-END(ABORT) or JOB-END(CUT): the frame becomes due, the job is unbound, the
line enters IDLE and the arbiter runs (R89, with R15, R53 and R12). A cut already decided goes before a hold (R54). -/
def Room.endJob (r : Room) (l : LineId) (j : JobId) (x : Job) : Room :=
  if x.state = .aborted then
    (((r.setJob j (some { x with bound := none })).mark (.job j) (.aborted x.confirmed)).modLine l
      fun y => y.push (.jobEnd .abort)).becomeIdle l
  else if x.cutPending then
    let reason := (x.stallReason.getD .data).hold
    (((r.setJob j (some (x.heldBy reason))).mark (.job j) (.cut reason)).modLine l
      fun y => y.push (.jobEnd .cut)).becomeIdle l
  else
    ((r.setJob j (some (x.heldBy .host))).modLine l fun y => y.push (.jobEnd .cut)).becomeIdle l

/-- The line goes on: with an empty window in BUSY a case of R89 takes effect; otherwise it opens what it can, and an
owed JOB-END(COMPLETE) becomes due (R86, R88, R89). A RECOVERING line waits: R94 has chosen its next frame when RESYNC
was sent, and a hold or a cancel taken after that takes effect at JOB_START_SENT, also where the JOB-START is due and
not begun (behind a POLL). DESIGN CHOICE: log entry 45. -/
def Room.proceed (r : Room) (l : LineId) : Room :=
  match (r.line l).job with
  | none => r
  | some j =>
    match r.job j with
    | none => r
    | some x =>
      if (r.line l).state = .busy ∧ (r.line l).window.isEmpty ∧ x.endCase then r.endJob l j x
      else (r.tryOpen l).drain l

/-- The failover state when the job leaves the line or is cancelled (R158): NONE, unless already TAKEN. -/
def Failover.stopped : Failover → Failover
  | .taken => .taken
  | _ => .none

/-- A failover timer running for the line's job stops (R14, R158). -/
def Line.stopFailover (y : Line) : Line :=
  { y with alert := y.alert.map fun a => { a with failover := a.failover.stopped } }

/-- The line is told that its job has completed (R21, R88): JOB-END(COMPLETE) becomes due if the run has not sent it;
the line enters IDLE, or stays in ALERT with the frame held. -/
def Room.lineCompleted (r : Room) (l : LineId) : Room :=
  let y := r.line l
  let r := if y.endSent then r else r.modLine l fun y => y.pushOrHold (.jobEnd .complete)
  match y.state with
  | .busy | .recovering => r.becomeIdle l
  | _ => r.modLine l fun y => y.release.stopFailover

/-- A finished job enters DONE with its mark, leaves any queue, and is unbound; its page list is empty and its blocks are
in the free pool (R21). -/
def Room.complete (r : Room) (j : JobId) (x : Job) : Room :=
  let done := { x with state := .done, bound := none, holdReason := none, holdPending := false,
                       stallReason := none, blocked := false, cutPending := false, pages := [] }
  let r := (((r.leaveQueue j x).returnEntries x.pages).setJob j (some done)).mark (.job j) (.done x.confirmed)
  match x.bound with
  | some l => r.lineCompleted l
  | none => r

end Sys2Proof.Machine
end

