-- ==== Sys2Proof/Machine/Meter.lean ====
section
/-! DEFINITION. The Meter Unit's moves of money: the move of an account at a period close (R125, R126), the close's
start (R124), the confirmation (R117) and the release of reservations (R118); and a confirmed instance at the JTU
(R19). -/

namespace Sys2Proof.Machine

/-! ## Period close -/

/-- The close is in flight and the account unmoved (R124, R126). -/
def Room.unmoved (r : Room) (x : Account) : Bool := r.meter.scan.isSome && decide (x.epoch ≠ r.meter.epoch)

/-- The move of an account up to its watermark (R125, steps 1 to 3). -/
def Room.shiftAccount (r : Room) (a : AcctId) (x : Account) : Room :=
  ((r.setSnapshot a (some { epoch := x.epoch, consumed := x.consumed, mono := x.mono, colour := x.colour,
                            sheets := x.sheets, saturated := x.saturated })).setAccount a
    (some { x with consumed := 0, mono := 0, colour := 0, sheets := 0, saturated := false, epoch := r.meter.epoch,
                   crossed := false })).evalWatermark a

/-- The move of an account: the new period's fields, then the hand-over to the Dispatch Unit (R125). -/
def Room.moveAccount (r : Room) (a : AcctId) (x : Account) : Room := (r.shiftAccount a x).reexamine a

/-- An unmoved account is moved before anything else is done to it (R126). -/
def Room.ensureMoved (r : Room) (a : AcctId) : Room :=
  match r.account a with
  | some x => if r.unmoved x then r.moveAccount a x else r
  | none => r

/-- The epoch just closed: the device epoch less one, modulo 65,536 (R125). -/
def Meter.closedEpoch (m : Meter) : BitVec 16 := m.epoch - 1

/-- The scan over an ABSENT account empties its snapshot unless it holds the epoch just closed (R125, R128). -/
def Room.settleSnapshot (r : Room) (a : AcctId) : Room :=
  match r.snapshot a with
  | some s => if s.epoch = r.meter.closedEpoch then r else r.setSnapshot a none
  | none => r

/-- The scan takes one account number (R125). -/
def Room.scanAccount (r : Room) (a : AcctId) : Room :=
  match r.account a with
  | some x => if x.epoch = r.meter.epoch then r else r.moveAccount a x
  | none => r.settleSnapshot a

/-- A close start (R124). -/
def Meter.startClose (m : Meter) : Meter :=
  { m with
    epoch := m.epoch + 1
    scan := some 0
    timer := if m.closeMode = .interval then some (minutes m.interval) else m.timer }

/-! ## Confirmation (R117, R107) -/

/-- A total raised, held at 4,294,967,295 (R117). -/
def raised (total n : Nat) : Nat := capAt Config.top32 (total + n)

/-- The raise would pass the top (R117). -/
def passes (total n : Nat) : Bool := decide (Config.top32 < total + n)

/-- The impressions of an instance: mono and colour (R107). -/
def Descriptor.impressions (d : Descriptor) : Nat × Nat :=
  match d.colour with
  | .mono => (d.sides, 0)
  | .spot | .full => (0, d.sides)

/-- The totals a confirmation holds at their top (R117). -/
def Account.heldTops (x : Account) (charge : Nat) (d : Descriptor) : List Total :=
  (if passes x.consumed charge then [.consumed] else []) ++
    (if passes x.mono d.impressions.1 then [.mono] else []) ++
    (if passes x.colour d.impressions.2 then [.colour] else []) ++
    (if passes x.sheets 1 then [.sheets] else [])

/-- An account after a confirmation (R117). -/
def Account.confirmed (x : Account) (charge : Nat) (d : Descriptor) : Account :=
  { x with
    held := x.held - charge
    consumed := raised x.consumed charge
    mono := raised x.mono d.impressions.1
    colour := raised x.colour d.impressions.2
    sheets := raised x.sheets 1
    saturated := x.saturated || !(x.heldTops charge d).isEmpty }

/-- The MU confirms a window entry (R117). -/
def Room.meterConfirm (r : Room) (e : Entry) : Room :=
  let r := r.ensureMoved e.account
  match r.account e.account with
  | none => r
  | some x =>
    let r := r.setAccount e.account (some (x.confirmed e.charge e.desc))
    let r :=
      if x.saturated = false ∧ x.heldTops e.charge e.desc ≠ [] then
        r.mark (.account e.account) (.saturated (x.heldTops e.charge e.desc))
      else r
    r.evalWatermark e.account

/-- The JTU counts a confirmed instance; a page confirmed for its last copy is freed, and a finished job completes
(R19, R21). -/
def Room.jobConfirm (r : Room) (e : Entry) : Room :=
  match r.job e.job with
  | none => r
  | some x =>
    let x := { x with confirmed := x.confirmed + 1 }
    if x.state = .aborted then r.setJob e.job (some x)
    else
      let counted := x.pages.map fun p => if p.index = e.page then { p with copies := p.copies + 1 } else p
      let freed := counted.filter fun p => p.index = e.page ∧ x.copies ≤ p.copies
      let x := { x with pages := counted.filter fun p => ¬(p.index = e.page ∧ x.copies ≤ p.copies) }
      let r := (r.setJob e.job (some x)).returnEntries freed
      if x.finished then r.complete e.job x else r

/-- The SCU confirms an entry: line tally, then the MU, then the JTU (R133). -/
def Room.confirm (r : Room) (l : LineId) (e : Entry) : Room :=
  ((r.modLine l fun y => { y with count := { y.count with tally := y.count.tally + 1 } }).meterConfirm e).jobConfirm e

/-- The `n` oldest entries are removed, oldest first, each confirmed before the next (R90, R133). -/
def Room.confirmOldest (r : Room) (l : LineId) : Nat → Room
  | 0 => r
  | n + 1 =>
    match (r.line l).window with
    | e :: rest => ((r.modLine l fun y => { y with window := rest }).confirm l e).confirmOldest l n
    | [] => r

/-! ## Release (R118) -/

/-- An account number put in ascending order, once. -/
def insertAccount (a : AcctId) : List AcctId → List AcctId
  | [] => [a]
  | b :: bs => if a < b then a :: b :: bs else if a = b then b :: bs else b :: insertAccount a bs

/-- The accounts of entries, ascending, once each. -/
def accountsOf (es : List Entry) : List AcctId := es.foldr (fun e as => insertAccount e.account as) []

/-- The reservations of lost entries are released, and then each account's watermark is evaluated (R118). -/
def Room.releaseHeld (r : Room) (lost : List Entry) : Room :=
  let r := lost.foldl (fun r e => r.modAccount e.account fun x => { x with held := x.held - e.charge }) r
  (accountsOf lost).foldl Room.evalWatermark r

/-- The DU is told of each account whose held fell, in ascending account number (R118, R52). -/
def Room.tellReleased (r : Room) (lost : List Entry) : Room :=
  (accountsOf (lost.filter fun e => e.charge ≠ 0)).foldl Room.reexamine r

end Sys2Proof.Machine
end

