-- ==== Sys2Proof/Machine/Alerts.lean ====
section
/-! DEFINITION. Losses (R92) and the Alert Unit: opening a record (R142, R143), further conditions (R144),
acknowledgement (R148), removal and closing (R150 to R154), leaving ALERT (R95), failover (R155 to R157). -/

namespace Sys2Proof.Machine

/-! ## Failover -/

/-- The target is a bay (R155). -/
def Target.isBay : Target → Bool
  | .bay _ => true
  | .line _ => false

/-- The AU considers the failover timer of a line's record (R155). -/
def Room.considerFailover (r : Room) (l : LineId) : Room :=
  match (r.line l).alert, (r.line l).job with
  | some a, some j =>
    match r.job j, highestKind a.conds with
    | some x, some k =>
      let delay := (r.profiles.get k.rank).failover
      if a.failover = .none ∧ x.state = .suspended ∧ x.target.isBay = true ∧ x.splitAllowed = true ∧ 0 < delay then
        r.modLine l fun y => { y with alert := some { a with failover := .running (seconds delay) } }
      else r
    | _, _ => r
  | _, _ => r

/-- The AU takes a failover: the SUSPENDED job is unbound, to its bay queue with SPLIT, or to HELD(HOST) when a hold
is pending (R157, R55, R12). -/
def Room.takeFailover (r : Room) (l : LineId) : Room :=
  match (r.line l).alert, (r.line l).job with
  | some a, some j =>
    match r.job j with
    | some x =>
      if x.state = .suspended then
        let r := r.modLine l fun y => { y.release with alert := some { a with failover := .taken } }
        if x.holdPending then r.setJob j (some (x.heldBy .host))
        else (r.mark (.job j) (.split x.pos)).queueJob j x
      else r
    | none => r
  | _, _ => r

/-- A failover that is DUE is taken once the window is empty (R156). -/
def Room.failoverIfDue (r : Room) (l : LineId) : Room :=
  match (r.line l).alert with
  | some a => if a.failover = .due ∧ (r.line l).window.isEmpty then r.takeFailover l else r
  | none => r

/-! ## Loss (R92) -/

/-- The read of the page in transmission ends: the page entry of a deferred release returns to its pool (R31, R33). -/
def Room.endRead (r : Room) (l : LineId) : Room :=
  match (r.line l).page with
  | some pg =>
    let r := r.modLine l fun y => { y with page := none }
    if pg.deferred then r.returnEntry pg.entry else r
  | none => r

/-- The JTU sets the next-send position back to the oldest lost instance, unless the job is ABORTED (R20). -/
def Room.resume (r : Room) (lost : List Entry) : Room :=
  match lost with
  | e :: _ => r.modJob e.job fun x => if x.state = .aborted then x else { x with pos := .at e.copy e.page }
  | [] => r

/-- The line's own part of a loss (R92, steps 1 and 2): the frame in transmission is abandoned, every entry leaves the
window, and the run is no longer started. -/
def Line.emptied (y : Line) : Line :=
  ({ y with window := [], started := false, endSent := false, tx := y.tx.abandon } : Line).offer

/-- Steps 1 to 4 of a loss (R92). While the Dispatch Unit re-examines the accounts concerned, the line that takes the
loss opens nothing, its run having ended (log entry 13). -/
def Room.loseWindow (r : Room) (l : LineId) : Room :=
  let lost := (r.line l).window
  ((((r.endRead l).modLine l Line.emptied).releaseHeld lost).tellReleased lost).resume lost

/-! ## The alert record -/

/-- The bound job is suspended when a record opens; its stall timer stops and a pending cut is dropped (R143, R54). -/
def Room.suspendJob (r : Room) (l : LineId) : Room :=
  match (r.line l).job with
  | none => r
  | some j =>
    (r.modJob j fun x =>
        match x.state with
        | .active | .stalled => { x with state := .suspended, stallReason := none, cutPending := false }
        | _ => x).modLine l
      fun y => { y with stall := none }

/-- The AU opens a record on a line that has none (R142). -/
def Room.openRecord (r : Room) (l : LineId) (k : CondKind) (d : Detail) : Room :=
  let a : Alert :=
    { conds := [{ kind := k, detail := d, first := r.ms, repeats := 0 }], level := .one, acked := false,
      timer := some (seconds (r.profiles.get k.rank).t12), failover := .none,
      loss := k.isLoss || (r.line l).state == .recovering, opened := r.ms }
  let r := r.modLine l fun y => ({ y with state := .alert, alert := some a }.holdFrames).sync
  (((r.suspendJob l).considerFailover l).mark (.line l) (.alertOpened k d)).refreshFloor

/-- The detail of an entry after a repeat of its kind (R141). -/
def Detail.merge (old new : Detail) : Detail :=
  match old, new with
  | .jam locs dropped, .jam more _ =>
    more.foldl (fun acc loc =>
      match acc with
      | .jam locs dropped =>
        if locs.contains loc then .jam locs dropped
        else if locs.length < 4 then .jam (locs ++ [loc]) dropped
        else .jam locs (capAt 255 (dropped + 1))
      | other => other) (.jam locs dropped)
  | _, new => new

/-- The duration of the step from a level, by the profile of a kind; none from level 3 (R146). -/
def Room.stepTimer (r : Room) (v : Level) (k : CondKind) : Option Nat :=
  match v with
  | .one => some (seconds (r.profiles.get k.rank).t12)
  | .two => some (seconds (r.profiles.get k.rank).t23)
  | .three => none

/-- The AU adds a condition to the open record (R144, R145). -/
def Room.addCondition (r : Room) (l : LineId) (a : Alert) (k : CondKind) (d : Detail) : Room :=
  let loss := a.loss || k.isLoss
  if a.has k then
    let conds := a.conds.map fun c =>
      if c.kind = k then { c with detail := c.detail.merge d, repeats := capAt Config.top16 (c.repeats + 1) } else c
    r.modLine l fun y => ({ y with alert := some { a with conds := conds, loss := loss } } : Line).sync
  else
    let conds := a.conds ++ [{ kind := k, detail := d, first := r.ms, repeats := 0 }]
    let timer := if a.acked then r.stepTimer a.level ((highestKind conds).getD k) else a.timer
    let r := r.modLine l fun y =>
      ({ y with alert := some { a with conds := conds, loss := loss, acked := false, timer := timer } } : Line).sync
    (r.considerFailover l).refreshFloor

/-- The PLP hands the AU a condition (R142, R144). -/
def Room.handCondition (r : Room) (l : LineId) (k : CondKind) (d : Detail) : Room :=
  match (r.line l).alert with
  | none => r.openRecord l k d
  | some a => r.addCondition l a k d

/-- A loss with its condition (R92): the window is discarded, a failover DUE is taken from the resume point (R156),
and the condition is handed over. -/
def Room.lossEvent (r : Room) (l : LineId) (k : CondKind) (d : Detail) : Room :=
  ((r.loseWindow l).failoverIfDue l).handCondition l k d

/-- A link-down event (R80). The assembler's partial frame is discarded by the receiver at a break (R66, R75), before this;
that a HELLO treated as a link-down event (R82) leaves the assembler as it is, is DEDUCED (log entry 37). -/
def Room.linkDown (r : Room) (l : LineId) : Room :=
  if (r.line l).state.attached then r.lossEvent l .linkDown .plain else r

/-- A record is acknowledged and its escalation timer stops (R148). -/
def Alert.acknowledge (a : Alert) : Alert := if a.acked then a else { a with acked := true, timer := none }

/-- The entry of a kind is removed from the open record, where present (R150). -/
def Room.dropKind (r : Room) (l : LineId) (k : CondKind) : Room :=
  match (r.line l).alert with
  | some a =>
    r.modLine l fun y => ({ y with alert := some { a with conds := a.conds.filter fun c => c.kind ≠ k } } : Line).sync
  | none => r

/-! ## Closing (R154, R95) -/

/-- Held frames that a closing into RECOVERING drops, because R94 sends them afresh (R95). -/
def OutFrame.sentAfresh : OutFrame → Bool
  | .resync _ | .jobStart _ _ _ => true
  | _ => false

/-- The line leaves ALERT for a state, with the frames that the closing makes due or lets go (R95). -/
def Line.leaveAlert (y : Line) (state : LineState) (frames : List OutFrame) : Line :=
  (({ y with state := state, alert := none,
             tx := { y.tx with due := y.tx.due ++ frames, held := [] } } : Line).offer).sync

/-- The record closes (R154) and the line goes on as R95 lays down. An entry of RECOVERING is a new announcement: what
an earlier RESYNC or JOB-START still brings to its END counts for nothing in it (R94, R159). -/
def Room.closeRecord (r : Room) (l : LineId) (a : Alert) : Room :=
  let r := r.mark (.line l) (.alertClosed (r.ms - a.opened) .cleared)
  let held := (r.line l).tx.held
  let turn := (r.line l).turn
  match (r.line l).job with
  | some j =>
    let r := r.modJob j fun x => if x.state = .suspended then { x with state := .active } else x
    if a.loss then
      (r.modLine l fun y =>
        { (y.leaveAlert .recovering (.resync (turn + 1) :: held.filter fun f => !f.sentAfresh)) with
          turn := turn + 1, started := false, endSent := false }).refreshFloor
    else ((r.modLine l fun y => y.leaveAlert .busy held).refreshFloor).proceed l
  | none =>
    let frames := if a.loss then .resync turn :: held else held
    ((r.modLine l fun y => y.leaveAlert .idle frames).refreshFloor).becomeIdle l

/-- The AU's check once a frame's whole effect is done: an empty condition list closes the record (R150). -/
def Room.closeIfEmpty (r : Room) (l : LineId) : Room :=
  match (r.line l).alert with
  | some a => if a.conds.isEmpty then r.closeRecord l a else r
  | none => r

end Sys2Proof.Machine
end

