-- ==== Sys2Proof/Machine/Reports.lean ====
section
/-! DEFINITION. What queries and notices report: lines (R69), alerts (R160), jobs (R17), accounts (R114), the floor
(R163), the DEVICE, and the snapshot of a notice (R180). -/

namespace Sys2Proof.Machine

/-- The LINE-QUERY reply of a line (R69). -/
def Room.lineReport (r : Room) (l : LineId) : LineReport :=
  let y := r.line l
  { line := l, state := y.state, mode := y.mode, bay := y.bay, fmt := y.fmt, errs := y.errs,
    queued := y.rx.queue.length, take := y.tx.take, give := y.give, att := y.att, window := y.window,
    count := y.count }

/-- The ALERT-QUERY reply of one line (R160). -/
def Room.alertReport (r : Room) (l : LineId) : AlertReport :=
  let y := r.line l
  { line := l, state := y.state, record := y.alert, ms := r.ms,
    job := match y.job with
      | some j => (r.job j).map fun x => (j, x.state)
      | none => none }

/-- One entry of the ALERT-QUERY reply for all lines (R160). For a line with no open record R160 does not say what the
acknowledged field gives: DESIGN CHOICE no, log entry 41. -/
def Line.alertSummary (y : Line) : AlertSummary :=
  { isOpen := y.alert.isSome, level := y.alert.map Alert.level, acked := (y.alert.map Alert.acked).getD false,
    highest := match y.alert with
      | some a => highestKind a.conds
      | none => none }

/-- The ALERT-QUERY reply for all lines (R160). -/
def Room.alertSummaries (r : Room) : List AlertSummary := r.lines.toList.map Line.alertSummary

/-- The entries a job has in the window of its bound line (R17). -/
def Room.inFlight (r : Room) (j : JobId) (x : Job) : Nat :=
  match x.bound with
  | some l => (r.line l).window.countP fun e => e.job == j
  | none => 0

/-- The JOB-QUERY reply for a slot in use (R17). -/
def Room.jobReport (r : Room) (j : JobId) (x : Job) : JobReport :=
  { tag := x.tag, account := x.account, target := x.target, cls := x.cls, copies := x.copies, needs := x.needs,
    earlyStart := x.earlyStart, splitAllowed := x.splitAllowed, intakeOpen := x.intakeOpen,
    openPage := x.openPage.map fun e => (e.desc, e.length), pagesHeld := x.pages.length,
    firstIndex := x.pages.head?.map PageEntry.index, pageCount := x.pageCount, pos := x.pos,
    confirmed := x.confirmed, bound := x.bound, runCount := x.runCount, holdReason := x.holdReason,
    holdPending := x.holdPending, stallReason := x.stallReason, state := x.state, inFlight := r.inFlight j x }

/-- The LIVE ACCOUNT-READ reply (R114). -/
def Account.report (a : AcctId) (x : Account) : AccountReport :=
  { account := a, fields := x, available := x.available, level := x.level }

/-- The floor as SET-PATTERN reports it (R163). A beacon whose generator is stopped (UNCONFIGURED, R170) is reported as
running no pattern: DESIGN CHOICE, log entry 39. -/
def Floor.report (f : Floor) : FloorReport :=
  { patterns := f.patterns, levelMap := f.levelMap,
    beacons := f.beacons.toList.map fun k => (k.sel, k.gen.map Generator.running),
    bell := f.bell, ack := f.ack.toList.map Filter.level, shift := f.shift.level }

/-- The DEVICE snapshot (R180). -/
def Part.deviceReport (p : Part) : DeviceReport :=
  { phase := p.link.phase, blocks := p.room.store.blocks, freeCount := p.room.store.freeCount,
    low := p.room.store.low, freeEntries := p.room.freeEntries, epoch := p.room.meter.epoch,
    scan := p.room.meter.scan, closeMode := p.room.meter.closeMode, edge := p.room.meter.edge,
    interval := p.room.meter.interval, ms := p.room.ms }

/-- The snapshot of a source as a notice gives it (R180). -/
def Part.snap (p : Part) : Source → Snap
  | .device => .device p.deviceReport
  | .line l => .line (p.room.lineReport l) (p.room.alertReport l)
  | .job j => .job j ((p.room.job j).map fun x => p.room.jobReport j x)
  | .account a => .account ((p.room.account a).map fun x => x.report a)

end Sys2Proof.Machine
end

