-- ==== Sys2Proof/Machine/HostLink.lean ====
section
/-! DEFINITION. The Host Link Interface: arriving frames and the request buffer (R173), taking the head request in
hand, the refusals of the HLI (R174), placing replies with their summary byte (R175), and what HSO carries (R171). -/

namespace Sys2Proof.Machine

/-! ## Arrival (R173) -/

/-- The frame as the buffer holds it, with its verdict (R173). -/
def bufferedFrame : Wire.Arrival → ReqFrame
  | .overlong kind tag => { kind := kind, tag := tag, payload := [], verdict := .tooLong }
  | .complete kind tag payload good =>
    { kind := kind, tag := tag, payload := payload,
      verdict := if !good then .badCheck else if !listedKind kind then .unknownKind else .good }

/-- An arrived frame joins the buffer, or is discarded with the REFUSED marker set (R173). -/
def Link.arrive (k : Link) (f : ReqFrame) : Link :=
  if k.buffer.length < Config.bufferPlaces then { k with buffer := k.buffer ++ [f] } else { k with refused := true }

/-- A request frame arrives; in POWER_CLEAR and STRAP the HLI takes no byte (R171, R173). -/
def Link.requestArrival (k : Link) (hsi : List Byte) : Link :=
  match k.phase.answers, Wire.arrival hsi with
  | true, some a => k.arrive (bufferedFrame a)
  | _, _ => k

/-! ## Replies (R174, R175) -/

/-- The reply kind of a request kind: plus 80h, modulo 256 (R172, R174). -/
def replyKind (kind : Byte) : Byte := kind + 0x80#8

/-- A reply joins the queue with the summary of the state at that moment (R175). -/
def Part.reply (p : Part) (kind tag : Byte) (status : Status) (results : Results) : Part :=
  { p with link := { p.link with replies := p.link.replies ++
      [{ kind := replyKind kind, tag := tag, status := status, summary := p.summary, results := results }] } }

/-- The bytes of a reply on HSO, given the bytes of its results: their layout is not in the spec (R172, log entry 6). -/
def Reply.frame (r : Reply) (results : List Byte) : List Byte :=
  Wire.frame r.kind r.tag (BitVec.ofNat 8 r.status.code :: r.summary :: results)

/-- The head frame can be taken: the link answers, the reply queue has room, and no request is in hand (R174). -/
def Link.canTake (k : Link) : Bool :=
  k.phase.answers && decide (k.replies.length < Config.replyPlaces) && k.inHand.isNone

/-- The head frame, and the link without it, where it can be taken (R174). -/
def Link.takeHead (k : Link) : Option (ReqFrame × Link) :=
  if k.canTake then
    match k.buffer with
    | f :: rest => some (f, { k with buffer := rest })
    | [] => none
  else none

/-- What an owner answers: at once, at once with the REFUSED marker cleared behind the reply (R177), or when a
LINE-TEST is decided (R71). -/
inductive Answer where
  | now (status : Status) (results : Results)
  | nowClearing (status : Status) (results : Results)
  | later (test : TestInHand)
  deriving DecidableEq, Repr

/-- The owner's answer is placed, or the request stays in hand (R174). -/
def Part.place (p : Part) (f : ReqFrame) : Answer → Part
  | .now status results => p.reply f.kind f.tag status results
  | .nowClearing status results =>
    let p := p.reply f.kind f.tag status results
    { p with link := { p.link with refused := false } }
  | .later test => { p with link := { p.link with inHand := some test } }

/-- The HLI's refusal by lifephase (R174). -/
def ReqKind.refusal (k : ReqKind) (phase : Lifephase) : Option Status :=
  match phase with
  | .unconfigured => if k.needsRunning then some .notRunning else none
  | .running => if k = .start then some .badState else none
  | .powerClear | .strap => none

/-- The row of a request kind: the good head frame of that kind is taken, refused by lifephase or by the shape of its
payload, or handed to its owner (R174). Where the head of the buffer is no such frame, or cannot be taken, nothing
happens (log entry 1). -/
def Part.serve (p : Part) (k : ReqKind) (owner : ReqFrame → Part → Option (Part × Answer)) : Part :=
  match p.link.takeHead with
  | some (f, link) =>
    if f.verdict = .good ∧ f.kind = k.code then
      let p := { p with link := link }
      match k.refusal link.phase with
      | some status => p.reply f.kind f.tag status .none
      | none =>
        match owner f p with
        | some (p, answer) => p.place f answer
        | none => p.reply f.kind f.tag .badArg .none
    else p
  | none => p

/-- The status of a bad verdict (R174). -/
def Verdict.status : Verdict → Option Status
  | .tooLong => some .tooLong
  | .badCheck => some .badCheck
  | .unknownKind => some .unknownKind
  | .good => none

/-- BAD_VERDICT_REPLY: a head frame with a bad verdict is answered with it (R174). -/
def Part.answerBadVerdict (p : Part) : Part :=
  match p.link.takeHead with
  | some (f, link) =>
    match f.verdict.status with
    | some status => ({ p with link := link }).reply f.kind f.tag status .none
    | none => p
  | none => p

/-- REPLY_SHIFTED_OUT: the head reply leaves the queue (R171). -/
def Link.shiftOut (k : Link) : Link := { k with replies := k.replies.tail }

/-- The frame the HLI shifts out from the start of a transfer that begins now: that of the reply at the head of the queue,
and none with an empty queue or in a lifephase in which the link does not answer (R171). The layout of result bytes is
not in the spec (log entry 6). -/
def Link.outFrame (layout : Results → List Byte) (k : Link) : List Byte :=
  match k.phase.answers, k.replies with
  | true, a :: _ => a.frame (layout a.results)
  | _, _ => []

/-- The bytes on HSO in a transfer of `n` bytes that begins now: the head reply from its sync byte on, and then 00h; and
at most one reply (R171). -/
def Link.hso (layout : Results → List Byte) (k : Link) (n : Nat) : List Byte :=
  (k.outFrame layout).take n ++ List.replicate (n - (k.outFrame layout).length) 0x00#8

/-- The link after the outgoing side of a transfer of `n` bytes: the head reply has left the queue once its last check
byte is out, which is the row REPLY_SHIFTED_OUT; a transfer that ends before leaves it at the head, to be shifted out
whole in the next (R171). -/
def Link.transferOut (layout : Results → List Byte) (k : Link) (n : Nat) : Link :=
  if k.outFrame layout ≠ [] ∧ (k.outFrame layout).length ≤ n then k.shiftOut else k

/-- An owner that works on the room alone. -/
def inRoom {α : Type} (parse : List Byte → Option α) (act : α → Room → Room × Status × Results) (f : ReqFrame)
    (p : Part) : Option (Part × Answer) :=
  (parse f.payload).map fun a =>
    let (room, status, results) := act a p.room
    ({ p with room := room }, .now status results)

/-- An owner that reports and changes nothing. -/
def asking {α : Type} (parse : List Byte → Option α) (report : α → Part → Status × Results) (f : ReqFrame)
    (p : Part) : Option (Part × Answer) :=
  (parse f.payload).map fun a => (p, .now (report a p).1 (report a p).2)

/-- The row of a request kind on the whole machine. -/
def State.serve (s : State) (k : ReqKind) (owner : ReqFrame → Part → Option (Part × Answer)) : State :=
  s.setPart (s.part.serve k owner)

end Sys2Proof.Machine
end

