-- ==== Sys2Proof/Machine/JobRequests.lean ====
section
/-! DEFINITION. What the Job Table Unit does on each job request (R5 to R17), with the Spool Store's part of PAGE-DATA
(R28). -/

namespace Sys2Proof.Machine

/-- The state of a slot, absent for FREE. -/
def Room.jobState (r : Room) (j : JobId) : Option JobState := (r.job j).map Job.state

/-- A refused job request: nothing changes, and the reply carries the slot and the job's state (R5). -/
def refuseJob (r : Room) (slot : Nat) (x : Job) (status : Status) : Room × Status × Results :=
  (r, status, .job slot (some x.state))

/-- The slot checks of a job request (R5). -/
def onJob (act : JobId → Job → Room → Room × Status × Results) (slot : Nat) (r : Room) : Room × Status × Results :=
  match toFin? 256 slot with
  | none => (r, .badArg, .job slot none)
  | some j =>
    match r.job j with
    | none => (r, .notFound, .job slot none)
    | some x => act j x r

/-- The slot and state of an answered job request. -/
def Room.jobAnswer (r : Room) (j : JobId) : Results := .job j.val (r.jobState j)

/-- The state of a slot after a request that leaves it in use. -/
def Room.stateAfter (r : Room) (j : JobId) (x : Job) : JobState := (r.jobState j).getD x.state

/-! ## JOB-OPEN (R6) -/

/-- The target a JOB-OPEN names (R6, R176). -/
def targetOf? (kind number : Nat) : Option Target :=
  match kind with
  | 0 => (toFin? 8 number).map .bay
  | 1 => (toFin? 24 number).map .line
  | _ => none

/-- The class of a code (R176). -/
def JobClass.ofCode? : Nat → Option JobClass
  | 0 => some .rush
  | 1 => some .standard
  | 2 => some .bulk
  | _ => none

/-- A colour level code (R176). -/
def levelOf? : Nat → Option ColourLevel
  | 0 => some .plain
  | 1 => some .spot
  | 2 => some .full
  | _ => none

/-- The lowest-numbered FREE slot (R6). -/
def Room.freeSlot (r : Room) : Option JobId := (List.finRange 256).find? fun j => (r.job j).isNone

/-- A job as JOB-OPEN fills it (R1). -/
def newJob (a : JobOpenArgs) (account : AcctId) (target : Target) (cls : JobClass) (colour : ColourLevel) : Job :=
  { tag := BitVec.ofNat 32 a.tag, account := account, target := target, cls := cls, copies := a.copies,
    needs := { colour := colour, duplex := a.duplex, media := BitVec.ofNat 16 a.media },
    earlyStart := a.earlyStart, splitAllowed := a.splitAllowed, intakeOpen := true, openPage := none, pages := [],
    pageCount := 0, pos := .at 1 1, confirmed := 0, bound := none, runCount := 0, holdReason := none,
    holdPending := false, stallReason := none, state := .loading, blocked := false, cutPending := false }

/-- A job takes a slot: the account's references rise, and an early-start job is queued (R6). -/
def Room.openJob (r : Room) (j : JobId) (x : Job) : Room :=
  let r := (r.setJob j (some x)).modAccount x.account fun a => { a with refs := a.refs + 1 }
  if x.earlyStart then r.queueJob j x else r

/-- JOB-OPEN (R6). -/
def jobOpen (a : JobOpenArgs) (r : Room) : Room × Status × Results :=
  match toFin? Config.accounts a.account, targetOf? a.targetKind a.target, JobClass.ofCode? a.cls,
      levelOf? a.colour with
  | some account, some target, some cls, some colour =>
    if a.copies = 0 ∨ 999 < a.copies then (r, .badArg, .none)
    else
      match r.account account with
      | none => (r, .notFound, .none)
      | some _ =>
        match r.freeSlot with
        | none => (r, .noSlot, .none)
        | some j =>
          let r := r.openJob j (newJob a account target cls colour)
          (r, .ok, r.jobAnswer j)
  | _, _, _, _ => (r, .badArg, .none)

/-! ## Pages (R3, R7 to R9) -/

/-- The colour mode of a code (R3, R176). -/
def modeOf? : Nat → Option ColourMode
  | 0 => some .mono
  | 1 => some .spot
  | 2 => some .full
  | _ => none

/-- A colour mode's order against the levels NONE, SPOT, FULL (R3). -/
def ColourMode.rank : ColourMode → Nat
  | .mono => 0
  | .spot => 1
  | .full => 2

/-- The back coverage as stored: absent for one side, required for two (R3). `none`: refused. -/
def backOf? (sides : Nat) (back : Option Nat) : Option (Option Nat) :=
  match sides with
  | 1 => some none
  | 2 => back.map fun b => some (min 100 b)
  | _ => none

/-- The descriptor's own checks and clamps, then the job's needs (R3). `none`: BAD_ARG. -/
def descriptorOf? (a : PageBeginArgs) (needs : Needs) : Option Descriptor :=
  match toFin? 16 a.media, modeOf? a.colour, backOf? a.sides a.back with
  | some media, some colour, some back =>
    let d : Descriptor := { media := media, colour := colour, front := min 100 a.front, back := back }
    if colour.rank ≤ needs.colour.rank ∧ (d.sides = 2 → needs.duplex = true) ∧ needs.media.getLsbD media.val = true
    then some d else none
  | _, _, _ => none

/-- Some coverage that counts was above 100 (R3). -/
def coverageClamped (a : PageBeginArgs) : Bool :=
  decide (100 < a.front) || (a.sides == 2 && decide (100 < a.back.getD 0))

/-- PAGE-BEGIN (R7, R3). -/
def pageBegin (a : PageBeginArgs) (r : Room) : Room × Status × Results :=
  onJob (fun j x r =>
    if x.state = .done ∨ x.state = .aborted ∨ x.intakeOpen = false ∨ x.openPage.isSome then
      refuseJob r a.slot x .badState
    else if x.pageCount = Config.maxPages then refuseJob r a.slot x .badArg
    else
      match descriptorOf? a x.needs with
      | none => refuseJob r a.slot x .badArg
      | some d =>
        if r.freeEntries = 0 then refuseJob r a.slot x .noSlot
        else
          let e : PageEntry := { index := x.pageCount + 1, desc := d, length := 0, chain := [], copies := 0 }
          ({ r with freeEntries := r.freeEntries - 1 }.setJob j (some { x with openPage := some e }),
            if coverageClamped a then .clamped else .ok, .pageIndex j x.state e.index)) a.slot r

/-- The chain a run of bytes goes into: the present one when the run fits its room, else one block more (R28).
`none`: a block is needed and none is free. -/
def Room.chainFor (r : Room) (e : PageEntry) (count : Nat) : Option (List Nat × Room) :=
  if count ≤ e.spare then some (e.chain, r)
  else
    match r.takeBlock with
    | some (b, r) => some (e.chain ++ [b], r)
    | none => none

/-- The checks of PAGE-DATA before the store (R5, R8): the job and open page, or the refusal. -/
def pageDataChecks (slot : Nat) (bytes : List Byte) (r : Room) : Except (Status × Results) (JobId × Job × PageEntry) :=
  match toFin? 256 slot with
  | none => .error (.badArg, .job slot none)
  | some j =>
    match r.job j with
    | none => .error (.notFound, .job slot none)
    | some x =>
      match x.openPage with
      | none => .error (.badState, .job slot (some x.state))
      | some e =>
        if bytes.length = 0 ∨ Config.maxRun < bytes.length then .error (.badArg, .job slot (some x.state))
        else .ok (j, x, e)

/-- The SSC appends a run to the open page, all or not at all (R28). `none`: a DRAM address does not exist. -/
def Part.appendRun (p : Part) (j : JobId) (x : Job) (e : PageEntry) (bytes : List Byte) : Option (Part × Answer) :=
  match p.room.chainFor e bytes.length with
  | none => some (p, .now .noSpace (.job j.val (some x.state)))
  | some (chain, room) =>
    (Dram.writeRun p.room.store.blocks chain p.dram e.length bytes).map fun dram =>
      let e := { e with length := e.length + bytes.length, chain := chain }
      ({ p with dram := dram, room := room.setJob j (some { x with openPage := some e }) },
        .now .ok (.pageLength j x.state e.length))

/-- PAGE-DATA (R8, R28). -/
def pageData (f : ReqFrame) (p : Part) : Option (Part × Answer) :=
  (parsePageData f.payload).map fun a =>
    match pageDataChecks a.1 a.2 p.room with
    | .error e => (p, .now e.1 e.2)
    | .ok (j, x, e) => (p.appendRun j x e a.2).getD (p, .now .noSpace .none)

/-- The PAGE-DATA at the head of the buffer would write at a DRAM address that does not exist. -/
def Part.pageDataOutside (p : Part) : Bool :=
  match p.link.takeHead with
  | some (f, link) =>
    match parsePageData f.payload with
    | some a =>
      match pageDataChecks a.1 a.2 p.room with
      | .ok (j, x, e) =>
        f.verdict == .good && f.kind == ReqKind.pageData.code && link.phase == .running &&
          (p.appendRun j x e a.2).isNone
      | .error _ => false
    | none => false
  | none => false

/-- A stall for DATA clears: the timer stops, the job returns to ACTIVE and its line goes on (R51). -/
def Room.dataArrived (r : Room) (j : JobId) (x : Job) : Room :=
  let r := r.setJob j (some { x with state := .active, stallReason := none })
  match x.bound with
  | some l => (r.modLine l fun y => { y with stall := none }).proceed l
  | none => r

/-- The job is STALLED for DATA and not cut-pending (R9, R10). -/
def Job.awaitsData (x : Job) : Bool := x.state == .stalled && x.stallReason == some .data && !x.cutPending

/-- PAGE-END (R9, R46). -/
def pageEnd (slot : Nat) (r : Room) : Room × Status × Results :=
  onJob (fun j x r =>
    match x.openPage with
    | none => refuseJob r slot x .badState
    | some e =>
      let x' := { x with openPage := none, pages := x.pages ++ [e], pageCount := x.pageCount + 1 }
      let r :=
        if x.awaitsData then r.dataArrived j x'
        else if x.state = .queued ∧ x.waiting = true then (r.setJob j (some x')).arbiterJob j
        else r.setJob j (some x')
      (r, .ok, .pageEnded j (r.stateAfter j x) e.index x'.pageCount)) slot r

/-! ## JOB-CLOSE (R10) -/

/-- The open page is discarded: its entry and blocks return to their pools (R10, R14). -/
def Room.discardOpen (r : Room) (x : Job) : Room :=
  match x.openPage with
  | some e => r.returnEntry e
  | none => r

/-- The job with intake CLOSED and a waiting position resolved by the step from (c, page count) (R10, R4). -/
def Job.closeIntake (x : Job) : Job :=
  let closed := { x with intakeOpen := false, openPage := none }
  if x.waiting then
    match x.pos with
    | .at copy _ => { closed with pos := closed.stepFrom copy x.pageCount }
    | .done => closed
  else closed

/-- JOB-CLOSE (R10). -/
def jobClose (slot : Nat) (r : Room) : Room × Status × Results :=
  onJob (fun j x r =>
    if x.intakeOpen = false ∨ x.state = .done ∨ x.state = .aborted then refuseJob r slot x .badState
    else
      let x' := x.closeIntake
      let r := (r.discardOpen x).setJob j (some x')
      let r :=
        if x'.finished then r.complete j x'
        else if x.state = .loading then r.queueJob j x'
        else if x.awaitsData then r.dataArrived j x'
        else if x.state = .queued ∧ x.waiting = true then r.arbiterJob j
        else
          match x.bound with
          | some l => r.drain l
          | none => r
      (r, .ok, .jobClosed j (r.stateAfter j x) x.pageCount x.openPage.isSome)) slot r

/-! ## JOB-HOLD and JOB-RELEASE (R11, R13) -/

/-- JOB-HOLD (R11, R12, R54). -/
def jobHold (slot : Nat) (r : Room) : Room × Status × Results :=
  onJob (fun j x r =>
    match x.state with
    | .queued =>
      let r := (r.leaveQueue j x).setJob j
        (some { x with state := .held, holdReason := some .host, blocked := false })
      (r, .ok, .jobHeld j .held true)
    | .active | .stalled | .suspended =>
      if x.holdPending then (r, .ok, .jobHeld j x.state false)
      else
        let r := r.setJob j (some { x with holdPending := true })
        let r :=
          match x.bound with
          | some l =>
            let r := if x.state = .suspended then r else r.modLine l fun y => { y with stall := none }
            if (r.line l).window.isEmpty then r.proceed l else r
          | none => r
        (r, .ok, .jobHeld j (r.stateAfter j x) false)
    | .loading | .held | .done | .aborted => refuseJob r slot x .badState) slot r

/-- JOB-RELEASE (R13). On a job still STALLED it starts the stall timer again with a full duration (R50). After a SET-BAY that
changed the timeout during the hold, R39 and R50 do not say which timeout that is: DESIGN CHOICE the bay's present one, log
entry 43. -/
def jobRelease (slot : Nat) (r : Room) : Room × Status × Results :=
  onJob (fun j x r =>
    if x.state = .held then
      let r := r.queueJob j x
      (r, .ok, r.jobAnswer j)
    else if x.holdPending then
      let r := r.setJob j (some { x with holdPending := false })
      let r :=
        match x.state, x.bound with
        | .active, some l => r.proceed l
        | .stalled, some l => if x.cutPending then r else r.modLine l fun y => { y with stall := r.stallLoad l }
        | _, _ => r
      (r, .ok, r.jobAnswer j)
    else refuseJob r slot x .badState) slot r

/-! ## JOB-CANCEL and JOB-REAP (R14 to R16) -/

/-- The page entry in a job's page list that its line has opened and not yet sent to the PAGE-CLOSE, if any (R15). -/
def Room.pageUnderRead (r : Room) (j : JobId) (x : Job) : Option PageEntry :=
  match x.bound with
  | some l =>
    match (r.line l).page with
    | some pg =>
      if pg.job = j ∧ pg.deferred = false then x.pages.find? fun e => e.index == pg.entry.index else none
    | none => none
  | none => none

/-- The entry passes from the page list to the cancelled job's page under read; its release is deferred (R15, R27,
R31). -/
def Line.keepPage (y : Line) (kept : Option PageEntry) : Line :=
  match kept with
  | some e => { y with page := y.page.map fun pg => { pg with entry := e, deferred := true } }
  | none => y

/-- The entries of a page list but for one. -/
def entriesBut (kept : Option PageEntry) (es : List PageEntry) : List PageEntry :=
  match kept with
  | some e => es.erase e
  | none => es

/-- JOB-CANCEL's effect (R14, R15): the pages return to their pools but for one being sent, whose release waits for
the end of its read (R31). A page that is opened and whose PAGE-OPEN still waits is finished too (log entry 12). -/
def Room.cancel (r : Room) (j : JobId) (x : Job) : Room :=
  let kept := r.pageUnderRead j x
  let r := ((r.leaveQueue j x).discardOpen x).returnEntries (entriesBut kept x.pages)
  let x' := { x with state := .aborted, holdPending := false, holdReason := none, stallReason := none,
                     openPage := none, pages := [], blocked := false, cutPending := false }
  let r := r.setJob j (some x')
  match x.bound with
  | some l => (r.modLine l fun y => { y.stopFailover.keepPage kept with stall := none }).proceed l
  | none => r.mark (.job j) (.aborted x.confirmed)

/-- JOB-CANCEL (R14). -/
def jobCancel (slot : Nat) (r : Room) : Room × Status × Results :=
  onJob (fun j x r =>
    if x.state = .done ∨ x.state = .aborted then refuseJob r slot x .badState
    else
      let r := r.cancel j x
      (r, .ok, .jobCancelled j (r.stateAfter j x) ((r.job j).bind Job.bound).isSome)) slot r

/-- JOB-REAP (R16, R181). -/
def jobReap (slot : Nat) (r : Room) : Room × Status × Results :=
  onJob (fun j x r =>
    if x.state = .done ∨ (x.state = .aborted ∧ x.bound = none) then
      let r := ((r.setJob j none).modAccount x.account fun a => { a with refs := a.refs - 1 }).dropKey (.job j)
      (r, .ok, r.jobAnswer j)
    else if x.state = .aborted then refuseJob r slot x .busy
    else refuseJob r slot x .badState) slot r

/-- JOB-QUERY (R17). -/
def jobQuery (slot : Nat) (p : Part) : Status × Results :=
  match toFin? 256 slot with
  | none => (.badArg, .job slot none)
  | some j => (.ok, .jobQuery j ((p.room.job j).map fun x => p.room.jobReport j x))

end Sys2Proof.Machine
end

