-- ==== Sys2Proof/Machine/Control.lean ====
section
/-! DEFINITION. A line entering DETACHED, LOOPBACK or DISABLED (R61, R96), RESTART of every block (R24, R37, R56, R73,
R97, R129, R139, R161, R170, R181) and START (R183). -/

namespace Sys2Proof.Machine

/-! ## Lines -/

/-- The engine as a line enters DETACHED from DISABLED or LOOPBACK (R61). -/
def Line.enterDetached (y : Line) : Line :=
  { y with state := .detached, rx := Receiver.fresh, tx := y.tx.cutShort, echo := none }

/-- The engine as a line enters LOOPBACK (R61, R70). -/
def Line.enterLoopback (y : Line) : Line :=
  { y with state := .loopback, rx := Receiver.fresh, tx := y.tx.cutShort, echo := none }

/-- The line as it is once disabled, its settings, error marks and counting kept (R61, R73, R96, R97, R139). -/
def Line.torn (y : Line) : Line :=
  { y.release with
    state := .disabled, rx := Receiver.stopped, tx := y.tx.cutShort, att := none, window := [], page := none,
    alert := none, silence := none, poll := none, echo := none }

/-- The job bound to a line that is disabled is unbound without JOB-END (R22, R96). -/
def Room.orphan (r : Room) (j : JobId) (x : Job) : Room :=
  if x.state = .aborted then
    (r.setJob j (some { x with bound := none })).mark (.job j) (.aborted x.confirmed)
  else r.setJob j (some (x.heldBy .lineLost))

/-- The line's part of steps 1 and 2 of R96: every frame is dropped and every entry leaves the window. -/
def Line.dropped (y : Line) : Line := { y with window := [], started := false, endSent := false, tx := y.tx.cutShort }

/-- The line is torn down (R96). -/
def Room.disableLine (r : Room) (l : LineId) : Room :=
  let y := r.line l
  let r := ((((r.endRead l).modLine l Line.dropped).releaseHeld y.window).tellReleased y.window).resume y.window
  let r := match (r.line l).job with
    | some j =>
      match r.job j with
      | some x => r.orphan j x
      | none => r
    | none => r
  let r := match y.alert with
    | some a => r.mark (.line l) (.alertClosed (r.ms - a.opened) .disabled)
    | none => r
  let r := r.modLine l Line.torn
  let r := if y.state.attached then r.mark (.line l) .detached else r
  r.refreshFloor

/-! ## RESTART (R184) -/

/-- A line after RESTART: settings kept, error marks and counters cleared, and the engine restarted (R73, R97,
R139). -/
def Line.restart (y : Line) : Line :=
  let y : Line :=
    { y.release with
      errs := Errors.clear
      count := { y.count with baseline := 0, tally := 0, last := 0, latch := none }
      tx := y.tx.cutShort, att := none, window := [], page := none, alert := none, silence := none, poll := none,
      echo := none }
  match y.state with
  | .disabled => { y with rx := Receiver.stopped }
  | .loopback => { y with rx := Receiver.fresh }
  | _ => { y with state := .detached, rx := Receiver.fresh }

/-- One account after RESTART: held and job references 0; in a close in flight it is moved, or its snapshot settled;
then its watermark is evaluated (R129). -/
def Room.restartAccount (r : Room) (a : AcctId) : Room :=
  match r.account a with
  | some x =>
    let x := { x with held := 0, refs := 0 }
    let r := r.setAccount a (some x)
    (if r.unmoved x then r.shiftAccount a x else r).evalWatermark a
  | none => if r.meter.scan.isSome then r.settleSnapshot a else r

/-- A key that RESTART keeps (R181). -/
def Key.survives (k : Key) : Bool :=
  match k.src with
  | .device | .account _ => true
  | .line _ | .job _ => false

/-- A beacon after RESTART: selection OFF, and a running generator loads OFF at once (R170). -/
def Beacon.restart (f : Floor) (k : Beacon) : Beacon :=
  { sel := .off, gen := k.gen.map fun _ => f.loaded .off }

/-- The floor after RESTART (R170). -/
def Floor.restart (f : Floor) : Floor := { f with beacons := mapTable (Beacon.restart f) f.beacons, bell := false }

/-- The room cleared of spooling and alerts: jobs, queues, store, windows, line and job keys (R24, R37, R56, R97,
R161, R170, R181). -/
def Room.wiped (r : Room) : Room :=
  { r with
    attn := r.attn.filter Key.survives
    jobs := Vector.replicate 256 none
    freeEntries := Config.pageEntries
    store := { r.store with used := [], low := false }
    bayQueues := Vector.replicate 8 []
    lineQueues := Vector.replicate 24 []
    lines := mapTable Line.restart r.lines
    floor := r.floor.restart }

/-- A close in flight is completed by RESTART (R129). -/
def Room.finishClose (r : Room) : Room :=
  match r.meter.scan with
  | some _ => ({ r with meter := { r.meter with scan := none } }).mark .device (.closeDone r.meter.epoch)
  | none => r

/-- RESTART of every block in the room, with RESTARTED on the DEVICE key (R184). -/
def Room.restart (r : Room) : Room :=
  (((r.wiped.forAccounts Room.restartAccount).finishClose).mark .device (.restarted .restart))

/-! ## START (R183) -/

/-- A line enters the state of its mode setting (R60). -/
def Line.startUp (y : Line) : Line :=
  match y.mode with
  | .off => y
  | .on => y.enterDetached
  | .loopback => y.enterLoopback

/-- The interval timer starts if the close mode is INTERVAL (R121). -/
def Meter.startUp (m : Meter) : Meter :=
  { m with timer := if m.closeMode = .interval then some (minutes m.interval) else none }

/-- Each generator begins running OFF at position 0 (R170). -/
def Floor.startUp (f : Floor) : Floor :=
  { f with beacons := mapTable (fun k => { k with gen := some (f.loaded .off) }) f.beacons }

/-- Each block takes up its RUNNING behaviour (R183). -/
def Room.startUp (r : Room) : Room :=
  { r with lines := mapTable Line.startUp r.lines, meter := r.meter.startUp, floor := r.floor.startUp }

end Sys2Proof.Machine
end

