-- ==== Sys2Proof/Machine/LineRequests.lean ====
section
/-! DEFINITION. SET-LINE (R58 to R60, R83, R131), LINE-QUERY (R69, R138), LINE-TEST (R71), SET-BAY (R39) and
SET-PATTERN (R163). -/

namespace Sys2Proof.Machine

/-- A number replaced by the nearer end of its range (00_scope.md "Refused and clamped"). -/
def clampTo (low high n : Nat) : Nat := max low (min high n)

/-! ## SET-LINE -/

/-- A parity code (R176). -/
def Parity.ofCode? : Nat → Option Parity
  | 0 => some .none
  | 1 => some .odd
  | 2 => some .even
  | 3 => some .zero
  | _ => Option.none

/-- A count source code (R131). -/
def CountSource.ofCode? : Nat → Option CountSource
  | 0 => some .exit
  | 1 => some .sent
  | _ => none

/-- A count source's code (R131). -/
def CountSource.code : CountSource → Nat
  | .exit => 0
  | .sent => 1

/-- The state checks of SET-LINE (R60 step 2, R131). -/
def SetLineArgs.stateAllows (a : SetLineArgs) (y : Line) : Bool :=
  let still := y.state == .disabled || y.state == .detached
  (still || (a.character.isNone && a.rate.isNone)) &&
    (still || y.state == .loopback || !(a.enable && a.loopback)) &&
    match a.counting with
    | some (source, _, _) => source == y.count.source.code || still || y.state == .idle
    | none => true

/-- The argument checks of SET-LINE (R60 step 3, R131). -/
def SetLineArgs.codesKnown (a : SetLineArgs) : Bool :=
  (match a.character with
    | some (parity, stops) => (Parity.ofCode? parity).isSome && (stops == 1 || stops == 2)
    | none => true) &&
    match a.counting with
    | some (source, _, _) => (CountSource.ofCode? source).isSome
    | none => true

/-- The character and rate groups written (R59, R60). -/
def SetLineArgs.format (a : SetLineArgs) (f : Format) : Format :=
  let f := match a.character with
    | some (parity, stops) => { f with parity := (Parity.ofCode? parity).getD f.parity, twoStops := stops == 2 }
    | none => f
  match a.rate with
  | some (p, k) => { f with p := min 7 p, k := min 239 k }
  | none => f

/-- A poll interval not below the silence timeout is replaced by half of it (R83). -/
def Protocol.settled (p : Protocol) : Protocol :=
  if p.silence ≤ p.poll then { p with poll := p.silence / 2 } else p

/-- The protocol group written (R83). -/
def SetLineArgs.proto (a : SetLineArgs) (p : Protocol) : Protocol :=
  match a.protocol with
  | some (depth, silence, poll) =>
    ({ depth := clampTo 1 8 depth, silence := clampTo 100 60000 silence,
       poll := clampTo 50 10000 poll } : Protocol).settled
  | none => p

/-- The counting group written (R131). -/
def SetLineArgs.counts (a : SetLineArgs) (c : Counting) : Counting :=
  match a.counting with
  | some (source, offset, tolerance) =>
    { c with source := (CountSource.ofCode? source).getD c.source, offset := BitVec.ofNat 32 offset,
             tolerance := min 255 tolerance }
  | none => c

/-- Some value of SET-LINE was clamped (R59, R83, R131). -/
def SetLineArgs.clamped (a : SetLineArgs) : Bool :=
  (match a.rate with
    | some (p, k) => decide (7 < p) || decide (239 < k)
    | none => false) ||
    (match a.protocol with
      | some (depth, silence, poll) =>
        let p := a.proto Protocol.powerOn
        decide (p.depth ≠ depth) || decide (p.silence ≠ silence) || decide (p.poll ≠ poll)
      | none => false) ||
    match a.counting with
    | some (_, _, tolerance) => decide (255 < tolerance)
    | none => false

/-- The mode setting that the two flags record (R60). -/
def SetLineArgs.modeSetting (a : SetLineArgs) : LineMode :=
  if !a.enable then .off else if a.loopback then .loopback else .on

/-- The mode applied to the line in RUNNING (R60, R61). -/
def Room.applyMode (r : Room) (l : LineId) (m : LineMode) : Room :=
  match m, (r.line l).state with
  | .off, .disabled => r
  | .off, _ => r.disableLine l
  | .loopback, .disabled | .loopback, .detached => r.modLine l Line.enterLoopback
  | .on, .disabled | .on, .loopback => r.modLine l Line.enterDetached
  | _, _ => r

/-- The reply's settings in force (R60). -/
def Line.settings (y : Line) : Results :=
  .line y.state y.fmt y.proto y.count.source y.count.offset y.count.tolerance y.mode

/-- A character in reception is discarded, and the receiver hunts for a start bit (R58). -/
def Receiver.dropCharacter (x : Receiver) : Receiver :=
  match x.cond with
  | .sampling _ _ => { x with cond := .hunting }
  | .stopped | .hunting | .waitMark => x

/-- The receiver after the groups are written: a character or rate group discards a character in reception (R58). -/
def SetLineArgs.receiver (a : SetLineArgs) (x : Receiver) : Receiver :=
  if a.character.isSome || a.rate.isSome then x.dropCharacter else x

/-- A request that passes: the groups are written, then the mode setting, then in RUNNING the mode is applied (R60). -/
def SetLineArgs.write (a : SetLineArgs) (phase : Lifephase) (r : Room) (l : LineId) : Room :=
  let r := r.modLine l fun y =>
    { y with fmt := a.format y.fmt, proto := a.proto y.proto, count := a.counts y.count, mode := a.modeSetting
             rx := a.receiver y.rx }
  if phase = .running then r.applyMode l a.modeSetting else r

/-- SET-LINE (R60). -/
def setLine (phase : Lifephase) (a : SetLineArgs) (r : Room) : Room × Status × Results :=
  match toFin? 24 a.line with
  | none => (r, .badArg, .none)
  | some l =>
    if a.stateAllows (r.line l) = false then (r, .badState, .none)
    else if a.codesKnown = false then (r, .badArg, .none)
    else
      let r := a.write phase r l
      (r, if a.clamped then .clamped else .ok, (r.line l).settings)

/-! ## LINE-QUERY and LINE-TEST -/

/-- The TAKE level of a line as the command brings it. DESIGN CHOICE, log entry 29: the level reported is that of the pin
in every lifephase and line state, also where R61, R70 and R72 have the transmitter sample it not at all (UNCONFIGURED,
DISABLED, LOOPBACK), since R69 reports the present level and names no exception. -/
def Room.seeTake (r : Room) (l : LineId) (take : Bool) : Room :=
  r.modLine l fun y => { y with tx := { y.tx with take := take } }

/-- LINE-QUERY: the report, and then with the clear flag the error marks and the latch cleared (R69, R138). -/
def lineQuery (take : Bool) (a : Nat × Bool) (r : Room) : Room × Status × Results :=
  match toFin? 24 a.1 with
  | none => (r, .badArg, .none)
  | some l =>
    let r := r.seeTake l take
    let report := r.lineReport l
    let r :=
      if a.2 then r.modLine l fun y => { y with errs := Errors.clear, count := { y.count with latch := none } }
      else r
    (r, .ok, .lineQuery report)

/-- LINE-TEST: the checks, and then the queue emptied and the TEST frame due, the request staying in hand (R71). -/
def lineTest (f : ReqFrame) (p : Part) : Option (Part × Answer) :=
  (parseLineTest f.payload).map fun a =>
    match toFin? 24 a.1 with
    | none => (p, .now .badArg .none)
    | some l =>
      if (p.room.line l).state ≠ .loopback then (p, .now .badState .none)
      else if a.2.length = 0 ∨ 256 < a.2.length then (p, .now .badArg .none)
      else
        ({ p with room := p.room.modLine l fun y =>
            ({ y with rx := { y.rx with queue := [] }, echo := none } : Line).push (.test a.2) },
          .later { tag := f.tag, line := l, pattern := a.2 })

/-- The offset of the first byte that differs; of two bodies that agree as far as the shorter goes, its length
(R71). -/
def firstDifference : List Byte → List Byte → Nat
  | a :: as, b :: bs => if a = b then firstDifference as bs + 1 else 0
  | _, _ => 0

/-- The outcome a good TEST frame decides (R71). -/
def testOutcome (pattern body : List Byte) : TestOutcome :=
  if body = pattern then .matched else .mismatch body.length (firstDifference pattern body)

/-- The LINE-TEST in hand is decided and its reply joins the queue (R71, R174). -/
def Part.decideTest (p : Part) (t : TestInHand) (outcome : TestOutcome) : Part :=
  ({ p with link := { p.link with inHand := none }
            room := p.room.modLine t.line fun y => { y with echo := none } }).reply
    ReqKind.lineTest.code t.tag .ok (.test outcome)

/-- TEST_FRAME_TAKEN: a waiting LINE-TEST of the line is decided, else the frame is discarded (R70, R71). -/
def Part.testFrameTaken (p : Part) (l : LineId) : Part :=
  match (p.room.line l).rx.queue with
  | .test body :: rest =>
    let p := { p with room := p.room.modLine l fun y => { y with rx := { y.rx with queue := rest } } }
    match p.link.inHand with
    | some t => if t.line = l then p.decideTest t (testOutcome t.pattern body) else p
    | none => p
  | _ => p

/-- The shift stage has just sent the END of a TEST frame. -/
def Line.testEnded (y : Line) : Bool :=
  match y.tx.shift with
  | some c => c.role == .ends .test
  | none => false

/-- TEST_SENT: the echo wait of 100 ms starts for the LINE-TEST in hand, where the frame sent is its own: no later
TEST frame has begun (R71). -/
def Part.testSent (p : Part) (l : LineId) : Part :=
  if (p.room.line l).testEnded then
    let waits := match p.link.inHand with
      | some t => decide (t.line = l) && (p.room.line l).tx.hold.isNone
      | none => false
    { p with room := p.room.modLine l fun y =>
        { y with tx := { y.tx with shift := none }, echo := if waits then some Config.echoWait else y.echo } }
  else p

/-- ECHO_WAIT_EXPIRY: the outcome is NO_ECHO (R71). -/
def Part.echoWaitExpiry (p : Part) (l : LineId) : Part :=
  match (p.room.line l).echo, p.link.inHand with
  | some _, some t => if t.line = l then p.decideTest t .noEcho else p
  | _, _ => p

/-! ## SET-BAY (R39) -/

/-- The lines whose membership of the bay would change, ascending (R39). -/
def Room.changing (r : Room) (b : BayId) (members : Nat) : List LineId :=
  (List.finRange 24).filter fun l => members.testBit l.val != ((r.line l).bay == some b)

/-- A line that may change its bay (R39). -/
def LineState.movable : LineState → Bool
  | .disabled | .detached | .idle => true
  | .busy | .alert | .recovering | .loopback => false

/-- The member set written: a line of the set joins the bay, a line missing from it leaves (R39). -/
def Room.writeMembers (r : Room) (b : BayId) (members : Nat) : Room :=
  (r.changing b members).foldl
    (fun r l => r.modLine l fun y => { y with bay := if members.testBit l.val then some b else none }) r

/-- SET-BAY (R39). -/
def setBay (a : Nat × Nat × Nat) (r : Room) : Room × Status × Results :=
  match toFin? 8 a.1 with
  | none => (r, .badArg, .none)
  | some b =>
    match (r.changing b a.2.1).find? fun l => !(r.line l).state.movable with
    | some l => (r, .busy, .busyLine l)
    | none =>
      let changed := r.changing b a.2.1
      let r := r.writeMembers b a.2.1
      let r := ({ r with stallTimeout := r.stallTimeout.set b.val (min 3600 a.2.2) b.isLt }).refreshFloor
      let reply := Results.bay (r.members b) (min 3600 a.2.2)
      (changed.foldl Room.arbiterLine r, if 3600 < a.2.2 then .clamped else .ok, reply)

/-! ## SET-PATTERN (R163) -/

/-- A pattern table entry replaced. -/
def Floor.setPattern (f : Floor) (i : Fin 6) (d : PatternDef) : Floor :=
  { f with patterns := f.patterns.set i.val d i.isLt }

/-- The clamped pattern values (R163). -/
def clampPattern (period onTime : Nat) : PatternDef :=
  { period := clampTo 2 4000 period, onTime := min (clampTo 2 4000 period) onTime }

/-- SET-PATTERN (R163). -/
def setPattern (a : Nat × Nat × Nat) (r : Room) : Room × Status × Results :=
  let (item, first, second) := a
  if item = 0xFF then (r, .ok, .floor r.floor.report)
  else
    match toFin? 6 item with
    | some i =>
      let d := clampPattern first second
      let r := { r with floor := r.floor.setPattern i d }
      (r, if d = { period := first, onTime := second } then .ok else .clamped, .floor r.floor.report)
    | none =>
      if item < 0x10 then (r, .badArg, .none)
      else
        match toFin? 3 (item - 0x10), Pattern.ofCode? first with
        | some v, some p =>
          let r := ({ r with floor := { r.floor with levelMap := r.floor.levelMap.set v.val p v.isLt } }).refreshFloor
          (r, .ok, .floor r.floor.report)
        | _, _ => (r, .badArg, .none)

end Sys2Proof.Machine
end

