-- ==== Sys2Proof/Machine/Frames.lean ====
section
/-! DEFINITION. The frames a PLP takes from a line's inbound queue and what each causes in each line state
(R80 to R82, R90, R93, R132, R135 to R137, R150 to R153). -/

namespace Sys2Proof.Machine

/-- The frame at the head of the inbound queue is taken away (R67). -/
def Line.dropFrame (y : Line) : Line := { y with rx := { y.rx with queue := y.rx.queue.tail } }

/-- What every good frame does on an attached line around its own effect: in ALERT it removes NO_ANSWER first (R152),
the record closes if its list is empty afterwards (R150), and the silence timer reloads (R84). In the other states
the frame is discarded (R80). -/
def Room.onFrame (r : Room) (l : LineId) (effect : Room → Room) : Room :=
  if (r.line l).state.attached then
    ((effect (r.dropKind l .noAnswer)).closeIfEmpty l).modLine l Line.heard
  else r

/-! ## HELLO -/

/-- The attach, up to and including the ATTACHED mark (R81 steps 1 to 5, R132). -/
def Room.attach (r : Room) (l : LineId) (model : BitVec 16) (sheets : BitVec 32) (colour : ColourLevel)
    (duplex : Bool) (media : BitVec 16) (window : Nat) : Room :=
  let depth := min (r.line l).proto.depth window
  (r.modLine l fun y =>
    { (({ y with
          att := some { model := model, colour := colour, duplex := duplex, media := media,
                        printerWindow := window, window := depth, ready := none }
          count := { y.count with baseline := sheets, last := sheets, tally := 0, latch := none } } : Line).push
        (.welcome l depth)) with
      silence := some y.proto.silence }).mark (.line l) (.attached depth)

/-- HELLO in ALERT: the loss, the attach, then every condition removed and the record closed (R82, R153). -/
def Room.helloInAlert (r : Room) (l : LineId) (attach : Room → Room) : Room :=
  let r := (r.loseWindow l).failoverIfDue l
  let r := r.modLine l fun y => { y with alert := y.alert.map fun a => { a with loss := true } }
  let r := (attach r).modLine l fun y => { y with alert := y.alert.map fun a => { a with conds := [] } }
  r.closeIfEmpty l

/-- HELLO: attach, attach again, printer restart, or loss, attach and close (R80 to R82). -/
def Room.hello (r : Room) (l : LineId) : Room :=
  match (r.line l).rx.queue with
  | .hello model sheets colour duplex media window :: _ =>
    let r := r.modLine l Line.dropFrame
    let attach := fun r : Room => r.attach l model sheets colour duplex media window
    match (r.line l).state with
    | .detached | .idle => ((attach r).becomeIdle l).modLine l Line.heard
    | .busy | .recovering => (r.linkDown l).modLine l Line.heard
    | .alert => (r.helloInAlert l attach).modLine l Line.heard
    | .disabled | .loopback => r
  | _ => r

/-! ## STATUS, JAM, HALT, CLEARED -/

/-- STATUS: the ready flag is recorded (R80). -/
def Room.status (r : Room) (l : LineId) : Room :=
  match (r.line l).rx.queue with
  | .status ready :: _ =>
    (r.modLine l Line.dropFrame).onFrame l fun r =>
      r.modLine l fun y => { y with att := y.att.map fun t => { t with ready := some ready } }
  | _ => r

/-- JAM: a loss and the condition JAM with its location (R80, R92). -/
def Room.jam (r : Room) (l : LineId) : Room :=
  match (r.line l).rx.queue with
  | .jam location :: _ =>
    (r.modLine l Line.dropFrame).onFrame l fun r => r.lossEvent l .jam (.jam [location] 0)
  | _ => r

/-- HALT: COVER_OPEN is a loss; MEDIA_OUT is a pause, whose condition carries the tray (R80, R92, R93). -/
def Room.halt (r : Room) (l : LineId) : Room :=
  match (r.line l).rx.queue with
  | .coverOpen :: _ => (r.modLine l Line.dropFrame).onFrame l fun r => r.lossEvent l .coverOpen .plain
  | .mediaOut tray :: _ =>
    (r.modLine l Line.dropFrame).onFrame l fun r => r.handCondition l .mediaOut (.tray tray)
  | _ => r

/-- CLEARED: the entry of the kind it names is removed from an open record (R151). -/
def Room.cleared (r : Room) (l : LineId) : Room :=
  match (r.line l).rx.queue with
  | .cleared kind :: _ => (r.modLine l Line.dropFrame).onFrame l fun r => r.dropKind l kind
  | _ => r

/-! ## EXIT -/

/-- The discrepancy check of an EXIT on a line whose count source is EXIT (R136, R137). -/
def Room.checkDiscrepancy (r : Room) (l : LineId) : Room :=
  let c := (r.line l).count
  if c.source = .exit ∧ c.tolerance < magnitude c.difference ∧ c.latch = none then
    (r.modLine l fun y => { y with count := { y.count with latch := some c.difference } }).mark (.line l)
      (.discrepancy c.difference)
  else r

/-- The closed entries at the head of a window (R90). -/
def closedHead (w : List Entry) : Nat := (w.takeWhile fun e => e.closed).length

/-- EXIT of n sheets with lifetime count L: L recorded, closed head entries confirmed, the check made, and what the
removals bring about (R90, R135, R136). -/
def Room.exitTaken (r : Room) (l : LineId) (n : Nat) (sheets : BitVec 32) : Room :=
  let r := r.modLine l fun y => { y with count := { y.count with last := sheets } }
  let r := r.confirmOldest l (min n (closedHead (r.line l).window))
  ((r.checkDiscrepancy l).failoverIfDue l).proceed l

/-- EXIT (R80, R90). -/
def Room.exit (r : Room) (l : LineId) : Room :=
  match (r.line l).rx.queue with
  | .exit n sheets :: _ => (r.modLine l Line.dropFrame).onFrame l fun r => r.exitTaken l n sheets
  | _ => r

end Sys2Proof.Machine
end

