-- ==== Sys2Proof/Machine/Timers.lean ====
section
/-! DEFINITION. The expiries of the lines' timers (R53, R84, R85, R146, R156), of the interval timer (R121, R123),
the tick of a close's scan (R125, R127), and the beacon generators (R165). -/

namespace Sys2Proof.Machine

/-- SILENCE_EXPIRY: a loss and the condition NO_ANSWER (R84, R92). -/
def Room.silenceExpiry (r : Room) (l : LineId) : Room :=
  if (r.line l).silence.isSome then r.lossEvent l .noAnswer .plain else r

/-- POLL_EXPIRY: a POLL becomes due, and the timer runs on from the poll interval (R85). -/
def Room.pollExpiry (r : Room) (l : LineId) : Room :=
  if (r.line l).poll.isSome then
    r.modLine l fun y =>
      ({ y with poll := some y.proto.poll, tx := { y.tx with pollDue := true } } : Line).offer
  else r

/-- STALL_TIMER_EXPIRY: the STALLED job becomes cut-pending; the cut takes effect once the window is empty (R53). -/
def Room.stallTimerExpiry (r : Room) (l : LineId) : Room :=
  if (r.line l).stall.isSome then
    let r := r.modLine l fun y => { y with stall := none }
    match (r.line l).job with
    | some j =>
      (r.modJob j fun x => if x.state = .stalled then { x with cutPending := true } else x).proceed l
    | none => r
  else r

/-- ESCALATION_EXPIRY: the level rises by one with ALERT_RAISED, and the next step begins (R146). -/
def Room.escalationExpiry (r : Room) (l : LineId) : Room :=
  match (r.line l).alert with
  | some a =>
    if a.timer.isSome then
      let level := a.level.next
      let timer := match highestKind a.conds with
        | some k => r.stepTimer level k
        | none => none
      ((r.modLine l fun y => { y with alert := some { a with level := level, timer := timer } }).mark (.line l)
        (.alertRaised level)).refreshFloor
    else r
  | none => r

/-- FAILOVER_EXPIRY: the failover is taken with an empty window, and is DUE otherwise (R156). -/
def Room.failoverExpiry (r : Room) (l : LineId) : Room :=
  match (r.line l).alert with
  | some a =>
    match a.failover with
    | .running _ =>
      if (r.line l).window.isEmpty then r.takeFailover l
      else r.modLine l fun y => { y with alert := some { a with failover := .due } }
    | _ => r
  | none => r

/-- A trigger of SHIFT or of the interval timer: it starts a close, or is missed while one is in flight (R123). -/
def Room.triggerClose (r : Room) (t : Trigger) : Room :=
  match r.meter.scan with
  | none => { r with meter := r.meter.startClose }
  | some _ => r.mark .device (.closeMissed t r.meter.epoch)

/-- INTERVAL_EXPIRY: the running timer reloads, and the expiry is a trigger (R121, R123). -/
def Room.intervalExpiry (r : Room) : Room :=
  if r.meter.timer.isSome then
    ({ r with meter := { r.meter with timer := some (minutes r.meter.interval) } }).triggerClose .interval
  else r

/-- The 16 account numbers a tick of the scan takes from a position (R125). -/
def scanGroup (pos : Nat) : List AcctId :=
  (List.range Config.scanStep).filterMap fun i => toFin? Config.accounts (pos + i)

/-- CLOSE_SCAN_TICK: the next 16 accounts are taken; past A511 the close completes with CLOSE_DONE (R125, R127). -/
def Room.closeScanTick (r : Room) : Room :=
  match r.meter.scan with
  | none => r
  | some pos =>
    let r := (scanGroup pos).foldl Room.scanAccount r
    if pos + Config.scanStep < Config.accounts then
      { r with meter := { r.meter with scan := some (pos + Config.scanStep) } }
    else
      ({ r with meter := { r.meter with scan := none } }).mark .device (.closeDone r.meter.epoch)

/-- BEACON_PERIOD_END: the position reaches the loaded period, and the generator loads its bay's selection at position 0
(R165). The row says that the time has passed (log entry 3). -/
def Floor.periodEnd (f : Floor) (b : BayId) : Floor :=
  let k := f.beacons.get b
  match k.gen with
  | some _ => f.setBeacon b { k with gen := some (f.loaded k.sel) }
  | none => f

/-- BEACON_ON_TIME_END: the position reaches the loaded on-time, and the pin turns from lit to dark (R165). The row says
that the time has passed (log entry 3). -/
def Floor.onTimeEnd (f : Floor) (b : BayId) : Floor :=
  let k := f.beacons.get b
  match k.gen with
  | some g =>
    if g.pos < g.onTime ∧ g.onTime < g.period then
      f.setBeacon b { k with gen := some { g with pos := g.onTime } }
    else f
  | none => f

end Sys2Proof.Machine
end

