-- ==== Sys2Proof/Machine/MeterRequests.lean ====
section
/-! DEFINITION. SET-RATE (R99), the account requests (R112 to R115), SET-CLOSE and CLOSE-PERIOD (R122 to R124), and the
alert requests (R147, R148, R160). -/

namespace Sys2Proof.Machine

/-! ## SET-RATE -/

/-- A rate table cell replaced (R99). -/
def Meter.setRate (m : Meter) (media : Fin 16) (colour : ColourMode) (rate : Rate) : Meter :=
  { m with rates := m.rates.set (cellOf media colour).val rate (cellOf media colour).isLt }

/-- The colour mode of a code of SET-RATE (R99). -/
def ColourMode.ofCode? : Nat → Option ColourMode
  | 0 => some .mono
  | 1 => some .spot
  | 2 => some .full
  | _ => none

/-- SET-RATE (R99). -/
def setRate (a : Nat × Nat × Nat × Nat) (r : Room) : Room × Status × Results :=
  match toFin? 16 a.1, ColourMode.ofCode? a.2.1 with
  | some media, some colour =>
    let rate : Rate := { base := min 65535 a.2.2.1, ksur := min 65535 a.2.2.2 }
    ({ r with meter := r.meter.setRate media colour rate },
      if 65535 < a.2.2.1 ∨ 65535 < a.2.2.2 then .clamped else .ok, .rate (r.meter.rate media colour) rate)
  | _, _ => (r, .badArg, .none)

/-! ## Accounts -/

/-- A mode code (R112). -/
def Mode.ofCode? : Nat → Option Mode
  | 0 => some .unlimited
  | 1 => some .soft
  | 2 => some .hard
  | _ => none

/-- A created account (R112). -/
def newAccount (mode : Mode) (a : AccountSetArgs) (epoch : BitVec 16) : Account :=
  { mode := mode, limit := a.limit, watermark := min 100 a.watermark, factor := min 1023 a.factor, consumed := 0,
    held := 0, mono := 0, colour := 0, sheets := 0, epoch := epoch, crossed := false, saturated := false, refs := 0 }

/-- Some value of ACCOUNT-SET was above its range (R112). -/
def AccountSetArgs.clamped (a : AccountSetArgs) : Bool := decide (100 < a.watermark) || decide (1023 < a.factor)

/-- The account's report where it is ACTIVE. -/
def Room.accountResults (r : Room) (a : AcctId) : Results :=
  match r.account a with
  | some x => .account (x.report a)
  | none => .none

/-- ACCOUNT-SET (R112, R113). The record in the reply is taken after the watermark's evaluation and before the hand-over to
the Dispatch Unit: DESIGN CHOICE, log entry 38, as R112 says only "the record as written". -/
def accountSet (a : AccountSetArgs) (r : Room) : Room × Status × Results :=
  match toFin? Config.accounts a.account, Mode.ofCode? a.mode with
  | some i, some mode =>
    let status : Status := if a.clamped then .clamped else .ok
    let r := r.ensureMoved i
    match r.account i with
    | some x =>
      if mode = .hard ∧ a.limit < x.consumed + x.held then (r, .overLimit, .none)
      else
        let r := (r.setAccount i (some { x with mode := mode, limit := a.limit, watermark := min 100 a.watermark,
                                                factor := min 1023 a.factor })).evalWatermark i
        let reply := r.accountResults i
        (r.reexamine i, status, reply)
    | none =>
      let r := ((r.setAccount i (some (newAccount mode a r.meter.epoch))).setSnapshot i none).evalWatermark i
      (r, status, r.accountResults i)
  | _, _ => (r, .badArg, .none)

/-- ACCOUNT-READ (R114). -/
def accountRead (a : Nat × Nat) (r : Room) : Room × Status × Results :=
  match toFin? Config.accounts a.1, a.2 with
  | some i, 0 =>
    match r.account i with
    | some x => (r, .ok, .account (x.report i))
    | none => (r, .notFound, .none)
  | some i, 1 =>
    let r := r.ensureMoved i
    (r, .ok, .snapshot i (r.snapshot i))
  | _, _ => (r, .badArg, .none)

/-- ACCOUNT-DELETE (R115, R181). -/
def accountDelete (n : Nat) (r : Room) : Room × Status × Results :=
  match toFin? Config.accounts n with
  | none => (r, .badArg, .none)
  | some i =>
    match r.account i with
    | none => (r, .notFound, .none)
    | some x =>
      if 0 < x.held ∨ 0 < x.refs then (r, .busy, .none)
      else ((((r.ensureMoved i).setAccount i none).dropKey (.account i)), .ok, .none)

/-! ## Period close -/

/-- A close mode code (R122). -/
def CloseMode.ofCode? : Nat → Option CloseMode
  | 0 => some .manual
  | 1 => some .line
  | 2 => some .interval
  | _ => none

/-- An edge code (R122). -/
def EdgeMode.ofCode? : Nat → Option EdgeMode
  | 0 => some .none
  | 1 => some .rising
  | 2 => some .falling
  | 3 => some .both
  | _ => Option.none

/-- SET-CLOSE (R122, R121). -/
def setClose (phase : Lifephase) (a : Nat × Nat × Nat) (r : Room) : Room × Status × Results :=
  match CloseMode.ofCode? a.1, EdgeMode.ofCode? a.2.1 with
  | some mode, some edge =>
    let interval := clampTo 1 1440 a.2.2
    ({ r with meter := { r.meter with
        closeMode := mode, edge := edge, interval := interval
        timer := if phase = .running ∧ mode = .interval then some (minutes interval) else none } },
      if interval = a.2.2 then .ok else .clamped, .closeSettings mode edge interval)
  | _, _ => (r, .badArg, .none)

/-- CLOSE-PERIOD (R123, R124). -/
def closePeriod (_ : Unit) (r : Room) : Room × Status × Results :=
  match r.meter.scan with
  | some _ => (r, .busy, .none)
  | none =>
    ({ r with meter := r.meter.startClose }, .ok, .closeStarted r.meter.startClose.epoch r.meter.epoch)

/-! ## Alerts -/

/-- ALERT-QUERY (R160). -/
def alertQuery (n : Nat) (p : Part) : Status × Results :=
  if n = 0xFF then (.ok, .alerts p.room.alertSummaries)
  else
    match toFin? 24 n with
    | some l => (.ok, .alert (p.room.alertReport l))
    | none => (.badArg, .none)

/-- ALERT-ACK (R148): on a record already acknowledged nothing changes. -/
def alertAck (n : Nat) (r : Room) : Room × Status × Results :=
  match toFin? 24 n with
  | none => (r, .badArg, .none)
  | some l =>
    match (r.line l).alert with
    | none => (r, .notFound, .none)
    | some a =>
      (if a.acked then r else (r.modLine l fun y => { y with alert := some a.acknowledge }).refreshFloor, .ok,
        .acknowledged a.level (a.conds.map Cond.kind))

/-- A kind code of SET-ESCALATION (R147). -/
def profileKind? : Nat → Option CondKind
  | 0 => some .jam
  | 1 => some .coverOpen
  | 2 => some .mediaOut
  | 3 => some .noAnswer
  | 4 => some .linkDown
  | _ => none

/-- SET-ESCALATION (R147). -/
def setEscalation (a : Nat × Nat × Nat × Nat) (r : Room) : Room × Status × Results :=
  match profileKind? a.1 with
  | none => (r, .badArg, .none)
  | some k =>
    let written : Profile :=
      { t12 := clampTo 1 3600 a.2.1, t23 := clampTo 1 3600 a.2.2.1, failover := min 3600 a.2.2.2 }
    ({ r with profiles := r.profiles.set k.rank.val written k.rank.isLt },
      if written = { t12 := a.2.1, t23 := a.2.2.1, failover := a.2.2.2 } then .ok else .clamped,
      .profile (r.profiles.get k.rank) written)

end Sys2Proof.Machine
end

