-- ==== Sys2Proof/Machine/Lifecycle.lean ====
section
/-! DEFINITION. Lifephases (R182), START and RESTART (R183, R184), and the device's own requests: IDENTIFY,
QUEUE-PEEK (R178), LINK-STATUS (R177) and NEXT-NOTICE (R180). -/

namespace Sys2Proof.Machine

/-! ## Lifephases (R182) -/

/-- RESET_RELEASE: the straps are sampled, STRAP is entered, and the millisecond counter starts at 0 (R25, R161,
R182). -/
def Part.resetRelease (p : Part) (strap : BitVec 2) : Part :=
  if p.link.phase = .powerClear then
    { p with link := { p.link with phase := .strap }
             room := { p.room with store := { p.room.store with strap := strap }, ms := 0 } }
  else p

/-- ENTER_UNCONFIGURED: the input filters are preset (R167, R170, R182). -/
def Part.enterUnconfigured (p : Part) : Part :=
  if p.link.phase = .strap then
    { p with link := { p.link with phase := .unconfigured }
             room := { p.room with floor := { p.room.floor with
               ack := Vector.replicate 8 Filter.preset, shift := Filter.preset } } }
  else p

/-- START (R183). -/
def start (f : ReqFrame) (p : Part) : Option (Part × Answer) :=
  (parseEmpty f.payload).map fun _ =>
    ({ p with link := { p.link with phase := .running }, room := p.room.startUp }, .now .ok .none)

/-- RESTART (R184). -/
def restart (f : ReqFrame) (p : Part) : Option (Part × Answer) :=
  (parseEmpty f.payload).map fun _ => ({ p with room := p.room.restart }, .now .ok .none)

/-! ## Device requests -/

/-- IDENTIFY (R178). -/
def identify (_ : Unit) (p : Part) : Status × Results :=
  (.ok, .identify Config.partCode Config.revision p.room.store.strap p.room.store.blocks p.link.phase p.room.ms)

/-- QUEUE-PEEK (R178). -/
def queuePeek (_ : Unit) (p : Part) : Status × Results :=
  (.ok, .queuePeek (p.room.bayQueues.toList.map List.length) (p.room.lineQueues.toList.map List.length)
    p.room.store.freeCount p.room.store.low p.room.freeEntries p.room.attn.length)

/-- LINK-STATUS: the reply is built first, and then the REFUSED marker is cleared (R177). -/
def linkStatus (f : ReqFrame) (p : Part) : Option (Part × Answer) :=
  (parseEmpty f.payload).map fun _ =>
    (p, .nowClearing .ok
      (.linkStatus p.link.refused p.link.buffer.length p.link.replies.length p.link.phase))

/-- The TAKE level of the line that a notice reports, as the command brings it. -/
def Room.seeTakeOf (r : Room) (src : Source) (take : Bool) : Room :=
  match src with
  | .line l => r.seeTake l take
  | .device | .job _ | .account _ => r

/-- NEXT-NOTICE: the head key leaves the list with its marks, and is reported with a snapshot of its source (R180). -/
def nextNotice (take : Bool) (f : ReqFrame) (p : Part) : Option (Part × Answer) :=
  (parseEmpty f.payload).map fun _ =>
    match p.room.attn with
    | [] => (p, .now .ok .noNotice)
    | k :: rest =>
      let p := { p with room := { p.room with attn := rest }.seeTakeOf k.src take }
      (p, .now .ok (.notice k.src.kindCode k.src.number k.marks (p.snap k.src)))

end Sys2Proof.Machine
end

