-- ==== Sys2Proof/Machine/DeviceCommands.lean ====
section
/-! DEFINITION. The meanings of the lifephase rows (R182), the link rows (R171, R173, R174) and the
device requests. -/

namespace Sys2Proof.Machine

/-- POWER_ON_RESET (R182): POWER_CLEAR is entered from any lifephase, and all state takes its power-on value but for the
DRAM contents (R37) and the levels that the outside puts on the input pins. -/
def execPowerOnReset (s : State) : Host.Outcome State Fault Refusal :=
  .next (s.setPart (Part.powerOn s.part.dram s.part.pins))

/-- RESET_RELEASE (R182, R25, R161). -/
def execResetRelease (strap : BitVec 2) (s : State) : Host.Outcome State Fault Refusal :=
  .next (s.setPart (s.part.resetRelease strap))

/-- ENTER_UNCONFIGURED (R182, R167, R185). -/
def execEnterUnconfigured (s : State) : Host.Outcome State Fault Refusal :=
  .next (s.setPart s.part.enterUnconfigured)

/-- REQUEST_ARRIVAL (R173). -/
def execRequestArrival (hsi : List Byte) (s : State) : Host.Outcome State Fault Refusal :=
  .next (s.modLink fun k => k.requestArrival hsi)

/-- PARTIAL_FRAME_DISCARDED (R171): a partial frame takes no place, gets no reply and sets nothing. -/
def execPartialFrameDiscarded (s : State) : Host.Outcome State Fault Refusal :=
  .next s

/-- REPLY_SHIFTED_OUT (R171, R175). -/
def execReplyShiftedOut (s : State) : Host.Outcome State Fault Refusal :=
  .next (s.modLink Link.shiftOut)

/-- BAD_VERDICT_REPLY (R174). -/
def execBadVerdictReply (s : State) : Host.Outcome State Fault Refusal :=
  .next (s.setPart s.part.answerBadVerdict)

/-- IDENTIFY (R178). -/
def execIdentify (s : State) : Host.Outcome State Fault Refusal :=
  .next (s.serve .identify (asking parseEmpty identify))

/-- START (R183). -/
def execStart (s : State) : Host.Outcome State Fault Refusal :=
  .next (s.serve .start start)

/-- RESTART (R184). -/
def execRestart (s : State) : Host.Outcome State Fault Refusal :=
  .next (s.serve .restart restart)

/-- LINK-STATUS (R177). -/
def execLinkStatus (s : State) : Host.Outcome State Fault Refusal :=
  .next (s.serve .linkStatus linkStatus)

/-- QUEUE-PEEK (R178). -/
def execQueuePeek (s : State) : Host.Outcome State Fault Refusal :=
  .next (s.serve .queuePeek (asking parseEmpty queuePeek))

/-- NEXT-NOTICE (R180). -/
def execNextNotice (take : Bool) (s : State) : Host.Outcome State Fault Refusal :=
  .next (s.serve .nextNotice (nextNotice take))

end Sys2Proof.Machine
end

