-- ==== Sys2Proof/Machine/FloorInputs.lean ====
section
/-! DEFINITION. Filtered edges of ACK0–ACK7 and SHIFT (R168, R169, R149, R123), and the sampling of the nine input pins
that brings them (R167). -/

namespace Sys2Proof.Machine

/-- The filter of ACKn replaced. -/
def Floor.setAck (f : Floor) (b : BayId) (x : Filter) : Floor := { f with ack := f.ack.set b.val x b.isLt }

/-- The level on the pin ACKn. -/
def Pins.setAck (x : Pins) (b : BayId) (level : Bool) : Pins := { x with ack := x.ack.set b.val level b.isLt }

/-- An edge of ACKn: the pin has had this level for eight samples, and the filtered level takes it (R167). -/
def Part.ackEdge (p : Part) (b : BayId) (level : Bool) : Part :=
  { p with
    pins := p.pins.setAck b level
    room := { p.room with floor := p.room.floor.setAck b { level := level, run := 0 } } }

/-- An edge of SHIFT, likewise (R167). -/
def Part.shiftLevel (p : Part) (level : Bool) : Part :=
  { p with
    pins := { p.pins with shift := level }
    room := { p.room with floor := { p.room.floor with shift := { level := level, run := 0 } } } }

/-- Every open record on the member lines of a bay is acknowledged (R149). R149 does not say whether the acknowledgements of
one press reach the Floor Signal Unit one by one: DESIGN CHOICE, log entry 42, all records are acknowledged first and the
selections are made once after that (R164), so a generator running OFF loads no selection in between (R165). -/
def Room.acknowledgeBay (r : Room) (b : BayId) : Room :=
  ((r.members b).foldl
    (fun r l => r.modLine l fun y => { y with alert := y.alert.map Alert.acknowledge }) r).refreshFloor

/-- ACK_PRESS: the filtered level falls; in RUNNING the press acknowledges the bay's records (R167, R168). -/
def Part.ackPress (p : Part) (b : BayId) : Part :=
  if p.link.phase.answers ∧ (p.room.floor.ack.get b).level = true then
    let p := p.ackEdge b false
    if p.link.phase = .running ∧ p.room.members b ≠ [] then { p with room := p.room.acknowledgeBay b } else p
  else p

/-- ACK_RELEASE: the filtered level rises, with no other effect (R168). -/
def Part.ackRelease (p : Part) (b : BayId) : Part :=
  if p.link.phase.answers ∧ (p.room.floor.ack.get b).level = false then p.ackEdge b true else p

/-- The edge setting takes an edge of this direction (R123). -/
def EdgeMode.matches (e : EdgeMode) (rising : Bool) : Bool :=
  match e with
  | .none => false
  | .rising => rising
  | .falling => !rising
  | .both => true

/-- The Meter Unit is handed an edge of SHIFT (R123, R169). -/
def Room.shiftEdge (r : Room) (rising : Bool) : Room :=
  if r.meter.closeMode = .line ∧ r.meter.edge.matches rising = true then r.triggerClose .shift else r

/-- SHIFT_EDGE: the filtered level changes; in RUNNING the edge is handed to the Meter Unit (R167, R169). -/
def Part.shiftEdge (p : Part) (rising : Bool) : Part :=
  if p.link.phase.answers ∧ p.room.floor.shift.level = !rising then
    let p := p.shiftLevel rising
    if p.link.phase = .running then { p with room := p.room.shiftEdge rising } else p
  else p

/-! ## Sampling (R167) -/

/-- One sample of the pin ACKn: the filter takes it, and the eighth in a row against the filtered level is a press or a
release (R167, R168). -/
def Part.sampleAck (p : Part) (b : BayId) : Part :=
  let x := (p.room.floor.ack.get b).sample (p.pins.ack.get b)
  if x.level = (p.room.floor.ack.get b).level then
    { p with room := { p.room with floor := p.room.floor.setAck b x } }
  else if x.level then p.ackRelease b
  else p.ackPress b

/-- One sample of the pin SHIFT, likewise (R167, R169). -/
def Part.sampleShift (p : Part) : Part :=
  let x := p.room.floor.shift.sample p.pins.shift
  if x.level = p.room.floor.shift.level then
    { p with room := { p.room with floor := { p.room.floor with shift := x } } }
  else p.shiftEdge x.level

/-- The nine inputs sampled once, ACK0 first (R167). -/
def Part.sampleFloor (p : Part) : Part := ((List.finRange 8).foldl Part.sampleAck p).sampleShift

end Sys2Proof.Machine
end

