-- ==== Sys2Proof/Machine/FloorCommands.lean ====
section
/-! DEFINITION. The meanings of the filtered edges of the floor inputs. -/

namespace Sys2Proof.Machine

/-- ACK_PRESS (R168, R149). -/
def execAckPress (bay : BayId) (s : State) : Host.Outcome State Fault Refusal :=
  .next (s.setPart (s.part.ackPress bay))

/-- ACK_RELEASE (R168). -/
def execAckRelease (bay : BayId) (s : State) : Host.Outcome State Fault Refusal :=
  .next (s.setPart (s.part.ackRelease bay))

/-- SHIFT_EDGE (R169, R123). -/
def execShiftEdge (rising : Bool) (s : State) : Host.Outcome State Fault Refusal :=
  .next (s.setPart (s.part.shiftEdge rising))

end Sys2Proof.Machine
end

