-- ==== Sys2Proof/Machine/JobCommands.lean ====
section
/-! DEFINITION. The meanings of the job requests. -/

namespace Sys2Proof.Machine

/-- JOB-OPEN (R6). -/
def execJobOpen (s : State) : Host.Outcome State Fault Refusal :=
  .next (s.serve .jobOpen (inRoom parseJobOpen jobOpen))

/-- PAGE-BEGIN (R7). -/
def execPageBegin (s : State) : Host.Outcome State Fault Refusal :=
  .next (s.serve .pageBegin (inRoom parsePageBegin pageBegin))

/-- PAGE-DATA (R8, R28); a chain that names a block the store does not have is a fault. -/
def execPageData (s : State) : Host.Outcome State Fault Refusal :=
  if s.part.pageDataOutside then .fault .dramAddress
  else .next (s.serve .pageData pageData)

/-- PAGE-END (R9). -/
def execPageEnd (s : State) : Host.Outcome State Fault Refusal :=
  .next (s.serve .pageEnd (inRoom parseSlot pageEnd))

/-- JOB-CLOSE (R10). -/
def execJobClose (s : State) : Host.Outcome State Fault Refusal :=
  .next (s.serve .jobClose (inRoom parseSlot jobClose))

/-- JOB-HOLD (R11). -/
def execJobHold (s : State) : Host.Outcome State Fault Refusal :=
  .next (s.serve .jobHold (inRoom parseSlot jobHold))

/-- JOB-RELEASE (R13). -/
def execJobRelease (s : State) : Host.Outcome State Fault Refusal :=
  .next (s.serve .jobRelease (inRoom parseSlot jobRelease))

/-- JOB-CANCEL (R14). -/
def execJobCancel (s : State) : Host.Outcome State Fault Refusal :=
  .next (s.serve .jobCancel (inRoom parseSlot jobCancel))

/-- JOB-QUERY (R17). -/
def execJobQuery (s : State) : Host.Outcome State Fault Refusal :=
  .next (s.serve .jobQuery (asking parseSlot jobQuery))

/-- JOB-REAP (R16). -/
def execJobReap (s : State) : Host.Outcome State Fault Refusal :=
  .next (s.serve .jobReap (inRoom parseSlot jobReap))

end Sys2Proof.Machine
end

