-- ==== Sys2Proof/Machine/LineCommands.lean ====
section
/-! DEFINITION. The meanings of the requests on lines, bays and floor patterns. -/

namespace Sys2Proof.Machine

/-- SET-LINE (R60). -/
def execSetLine (s : State) : Host.Outcome State Fault Refusal :=
  .next (s.serve .setLine fun f p => inRoom parseSetLine (setLine p.link.phase) f p)

/-- LINE-QUERY (R69). -/
def execLineQuery (take : Bool) (s : State) : Host.Outcome State Fault Refusal :=
  .next (s.serve .lineQuery (inRoom parseLineQuery (lineQuery take)))

/-- LINE-TEST (R71). -/
def execLineTest (s : State) : Host.Outcome State Fault Refusal :=
  .next (s.serve .lineTest lineTest)

/-- SET-BAY (R39). -/
def execSetBay (s : State) : Host.Outcome State Fault Refusal :=
  .next (s.serve .setBay (inRoom parseSetBay setBay))

/-- SET-PATTERN (R163). -/
def execSetPattern (s : State) : Host.Outcome State Fault Refusal :=
  .next (s.serve .setPattern (inRoom parseSetPattern setPattern))

end Sys2Proof.Machine
end

