-- ==== Sys2Proof/Machine/MeterCommands.lean ====
section
/-! DEFINITION. The meanings of the requests on rates, accounts, the period close and alerts. -/

namespace Sys2Proof.Machine

/-- SET-RATE (R99). -/
def execSetRate (s : State) : Host.Outcome State Fault Refusal :=
  .next (s.serve .setRate (inRoom parseSetRate setRate))

/-- ACCOUNT-SET (R112). -/
def execAccountSet (s : State) : Host.Outcome State Fault Refusal :=
  .next (s.serve .accountSet (inRoom parseAccountSet accountSet))

/-- ACCOUNT-READ (R114). -/
def execAccountRead (s : State) : Host.Outcome State Fault Refusal :=
  .next (s.serve .accountRead (inRoom parseAccountRead accountRead))

/-- ACCOUNT-DELETE (R115). -/
def execAccountDelete (s : State) : Host.Outcome State Fault Refusal :=
  .next (s.serve .accountDelete (inRoom parseAccount accountDelete))

/-- SET-CLOSE (R122). -/
def execSetClose (s : State) : Host.Outcome State Fault Refusal :=
  .next (s.serve .setClose fun f p => inRoom parseSetClose (setClose p.link.phase) f p)

/-- CLOSE-PERIOD (R123). -/
def execClosePeriod (s : State) : Host.Outcome State Fault Refusal :=
  .next (s.serve .closePeriod (inRoom parseEmpty closePeriod))

/-- ALERT-QUERY (R160). -/
def execAlertQuery (s : State) : Host.Outcome State Fault Refusal :=
  .next (s.serve .alertQuery (asking parseByte alertQuery))

/-- ALERT-ACK (R148). -/
def execAlertAck (s : State) : Host.Outcome State Fault Refusal :=
  .next (s.serve .alertAck (inRoom parseByte alertAck))

/-- SET-ESCALATION (R147). -/
def execSetEscalation (s : State) : Host.Outcome State Fault Refusal :=
  .next (s.serve .setEscalation (inRoom parseSetEscalation setEscalation))

end Sys2Proof.Machine
end

