-- ==== Sys2Proof/Machine/Receive.lean ====
section
/-! DEFINITION. The receiving side of a line: the checks of a completed character (R65), breaks (R66), the frame
assembler (R75), the check of a frame (R76, R77), the inbound queue and OVERRUN (R67), and the error marks (R68). -/

namespace Sys2Proof.Machine

/-! ## Frames (R76, R77) -/

/-- A colour capability code (R77). -/
def ColourLevel.ofCode? : Nat → Option ColourLevel
  | 0 => some .plain
  | 1 => some .spot
  | 2 => some .full
  | _ => none

/-- The condition kind a CLEARED names (R77). -/
def clearedKind? : Nat → Option CondKind
  | 0 => some .jam
  | 1 => some .mediaOut
  | 2 => some .coverOpen
  | _ => none

/-- A HELLO body (R77): a printer window of 0 or an unlisted code damages the frame; a window above 8 is taken as 8. -/
def parseHello : List Byte → Option InFrame
  | [m1, m0, s3, s2, s1, s0, colour, duplex, a1, a0, window] =>
    match ColourLevel.ofCode? colour.toNat with
    | some level =>
      if duplex.toNat ≤ 1 ∧ window.toNat ≠ 0 then
        some (.hello (BitVec.ofNat 16 (Wire.number [m1, m0])) (BitVec.ofNat 32 (Wire.number [s3, s2, s1, s0])) level
          (duplex == 1) (BitVec.ofNat 16 (Wire.number [a1, a0])) (min 8 window.toNat))
      else none
    | none => none
  | _ => none

/-- An EXIT body (R77): a count of 0 or above 15 damages the frame. -/
def parseExit : List Byte → Option InFrame
  | [n, s3, s2, s1, s0] =>
    if 1 ≤ n.toNat ∧ n.toNat ≤ 15 then some (.exit n.toNat (BitVec.ofNat 32 (Wire.number [s3, s2, s1, s0])))
    else none
  | _ => none

/-- A STATUS body (R77). -/
def parseStatus : List Byte → Option InFrame
  | [ready] => if ready.toNat ≤ 1 then some (.status (ready == 1)) else none
  | _ => none

/-- A JAM body (R77): a location above 31 is taken as 31. -/
def parseJam : List Byte → Option InFrame
  | [location] => some (.jam (min 31 location.toNat))
  | _ => none

/-- A HALT body (R77): the tray counts for MEDIA_OUT only. -/
def parseHalt : List Byte → Option InFrame
  | [kind, tray] =>
    match kind.toNat with
    | 0 => if tray.toNat ≤ 7 then some (.mediaOut tray.toNat) else none
    | 1 => some .coverOpen
    | _ => none
  | _ => none

/-- A CLEARED body (R77). -/
def parseCleared : List Byte → Option InFrame
  | [kind] => (clearedKind? kind.toNat).map .cleared
  | _ => none

/-- The frame of a kind and body, where the line takes the kind and the body fits it (R70, R76, R77). -/
def parseFrame (loopback : Bool) (kind : Byte) (body : List Byte) : Option InFrame :=
  if loopback then
    if kind.toNat = 0x18 ∧ 1 ≤ body.length ∧ body.length ≤ 256 then some (.test body) else none
  else
    match kind.toNat with
    | 0x40 => parseHello body
    | 0x41 => parseStatus body
    | 0x42 => parseExit body
    | 0x43 => parseJam body
    | 0x44 => parseHalt body
    | 0x45 => parseCleared body
    | _ => none

/-! ## Assembler (R75) -/

/-- A character as the receiver hands it over (R65). -/
structure RxChar where
  value : Byte
  marker : Bool
  poisoned : Bool
  deriving DecidableEq, Repr

/-- The frame an END completes: good, or `none` when damaged (R76). -/
def completed (loopback : Bool) (kind : Byte) (body : List Byte) (poisoned : Bool) (last : RxChar) : Option InFrame :=
  if poisoned || last.poisoned || last.value ≠ Wire.crc8 kind body then none else parseFrame loopback kind body

/-- The assembler takes a character: its new condition, and the good frame completed by it, if any (R75, R76). -/
def Assembler.take (loopback : Bool) (a : Assembler) (c : RxChar) : Assembler × Option InFrame :=
  match a with
  | .hunting => if c.marker then (.inFrame c.value [] c.poisoned, none) else (.hunting, none)
  | .inFrame kind body poisoned =>
    if c.marker then (.hunting, completed loopback kind body poisoned c)
    else if body.length = Config.maxBody then (.skipping, none)
    else (.inFrame kind (body ++ [c.value]) (poisoned || c.poisoned), none)
  | .skipping => if c.marker then (.hunting, none) else (.skipping, none)

/-! ## Error marks (R68) -/

/-- The error marks after some have been seen. -/
def Errors.seen (e new : Errors) : Errors :=
  { parity := e.parity || new.parity, framing := e.framing || new.framing, brk := e.brk || new.brk,
    overrun := e.overrun || new.overrun }

/-- Errors are seen on a line: the sticky marks are set, and LINE_ERRORS is raised when one goes from clear to set
(R68). -/
def Room.seeErrors (r : Room) (l : LineId) (new : Errors) : Room :=
  let old := (r.line l).errs
  let r' := r.modLine l fun y => { y with errs := y.errs.seen new }
  if old.seen new = old then r' else r'.mark (.line l) .lineErrors

/-! ## Characters (R57, R65, R66) -/

/-- The number of ones among the nine data bits. -/
def onesOf (value : Byte) (marker : Bool) : Nat :=
  (List.range 8).countP (fun i => value.getLsbD i) + marker.toNat

/-- The parity bit sent for a value and marker, where the mode has one (R57). -/
def Parity.bit (p : Parity) (value : Byte) (marker : Bool) : Option Bool :=
  match p with
  | .none => Option.none
  | .odd => some (decide (onesOf value marker % 2 = 0))
  | .even => some (decide (onesOf value marker % 2 = 1))
  | .zero => some false

/-- The sampled parity bit disagrees under ODD or EVEN (R65). -/
def Parity.fails (p : Parity) (value : Byte) (marker parity : Bool) : Bool :=
  match p with
  | .none | .zero => false
  | .odd | .even => p.bit value marker != some parity

/-- Every sampled bit is space (R65). -/
def isBreak (p : Parity) (value : Byte) (marker parity stop : Bool) : Bool :=
  value == 0 && !marker && !stop &&
    match p with
    | .none => true
    | _ => !parity

/-- The assembler takes a character; a good frame joins the inbound queue, or is lost as overrun (R67, R75, R76). In
LOOPBACK no error can arise (R68): the transmitter starts a character only while the queue has room (R70). -/
def Room.assemble (r : Room) (l : LineId) (c : RxChar) : Room :=
  let y := r.line l
  match y.rx.asm.take (y.state == .loopback) c with
  | (asm, none) => r.modLine l fun y => { y with rx := { y.rx with asm := asm } }
  | (asm, some f) =>
    if y.rx.room then
      r.modLine l fun y => { y with rx := { y.rx with asm := asm, queue := y.rx.queue ++ [f] } }
    else
      (r.modLine l fun y => { y with rx := { y.rx with asm := asm } }).seeErrors l
        { Errors.clear with overrun := y.state != .loopback }

/-- The receiver hunts or waits for mark, having seen this filtered level; the filter's run is kept where it had the
level already (R63, R64). -/
def Receiver.resume (x : Receiver) (cond : RxCond) (level : Bool) : Receiver :=
  { x with cond := cond
           filter := if x.filter.level = level then x.filter else { level := level, run := 0 } }

/-- The receiver hunts for a start bit, or has a character in reception (R64). -/
def RxCond.receives : RxCond → Bool
  | .hunting | .sampling _ _ => true
  | .stopped | .waitMark => false

/-- A completed character from a printer (R65, R66): a break, or a character checked for parity and framing. -/
def Room.receive (r : Room) (l : LineId) (value : Byte) (marker parity stop : Bool) : Room :=
  let fmt := (r.line l).fmt
  let r := r.modLine l fun y => { y with rx := y.rx.resume (if stop then .hunting else .waitMark) stop }
  if isBreak fmt.parity value marker parity stop then
    ((r.modLine l fun y => { y with rx := { y.rx with asm := .hunting } }).seeErrors l
      { Errors.clear with brk := true }).linkDown l
  else
    let parityBad := fmt.parity.fails value marker parity
    (r.seeErrors l { Errors.clear with parity := parityBad, framing := !stop }).assemble l
      { value := value, marker := marker, poisoned := parityBad || !stop }

/-- A completed character on the internal path of a LOOPBACK line (R70): the oldest one the line has started. Its stop bit
is mark, so the hunt resumes (R64). -/
def Room.receiveLoop (r : Room) (l : LineId) : Room :=
  match (r.line l).rx.path with
  | c :: rest =>
    (r.modLine l fun y => { y with rx := { y.rx.resume .hunting true with path := rest } }).assemble l
      { value := c.value, marker := c.marker, poisoned := false }
  | [] => r

/-- CHARACTER_RECEIVED: only a receiver that hunts for a start bit, or has the character in reception, can complete one
(R63, R64). -/
def Room.characterReceived (r : Room) (l : LineId) (value : Byte) (marker parity stop : Bool) : Room :=
  if (r.line l).rx.cond.receives then
    if (r.line l).state = .loopback then r.receiveLoop l else r.receive l value marker parity stop
  else r

/-- GAP_TIMEOUT: inside a frame, with GIVE active, the partial frame is discarded (R75). -/
def Room.gapTimeout (r : Room) (l : LineId) : Room :=
  if (r.line l).rx.cond ≠ .stopped ∧ (r.line l).giveSeen = true then
    r.modLine l fun y => { y with rx := { y.rx with asm := .hunting } }
  else r

/-- HUNT_RESUMES: the filtered level has returned to mark and the receiver hunts again (R64). -/
def Room.huntResumes (r : Room) (l : LineId) : Room :=
  if (r.line l).rx.cond = .waitMark then r.modLine l fun y => { y with rx := y.rx.resume .hunting true } else r

/-- EDGE_TAKEN_AS_NOISE: the level at tick 4 is mark; nothing is delivered and the hunt resumes (R64). -/
def Room.edgeTakenAsNoise (r : Room) (l : LineId) : Room :=
  if (r.line l).rx.cond.receives then r.modLine l fun y => { y with rx := y.rx.resume .hunting true } else r

end Sys2Proof.Machine
end

