-- ==== Sys2Proof/Machine/PressCommands.lean ====
section
/-! DEFINITION. The meanings of the rows that a printer brings: characters, and the frames a PLP takes. -/

namespace Sys2Proof.Machine

/-- CHARACTER_RECEIVED (R65). -/
def execCharacterReceived (line : LineId) (value : Byte) (marker parity stop : Bool) (s : State) : Host.Outcome State Fault Refusal :=
  .next (s.modRoom fun r => r.characterReceived line value marker parity stop)

/-- GAP_TIMEOUT (R75). -/
def execGapTimeout (line : LineId) (s : State) : Host.Outcome State Fault Refusal :=
  .next (s.modRoom fun r => r.gapTimeout line)

/-- HELLO (R81, R82). -/
def execHello (line : LineId) (s : State) : Host.Outcome State Fault Refusal :=
  .next (s.modRoom fun r => r.hello line)

/-- STATUS (R80). -/
def execStatus (line : LineId) (s : State) : Host.Outcome State Fault Refusal :=
  .next (s.modRoom fun r => r.status line)

/-- EXIT (R90). -/
def execExit (line : LineId) (s : State) : Host.Outcome State Fault Refusal :=
  .next (s.modRoom fun r => r.exit line)

/-- JAM (R80, R92). -/
def execJam (line : LineId) (s : State) : Host.Outcome State Fault Refusal :=
  .next (s.modRoom fun r => r.jam line)

/-- HALT (R80, R92, R93). -/
def execHalt (line : LineId) (s : State) : Host.Outcome State Fault Refusal :=
  .next (s.modRoom fun r => r.halt line)

/-- CLEARED (R151). -/
def execCleared (line : LineId) (s : State) : Host.Outcome State Fault Refusal :=
  .next (s.modRoom fun r => r.cleared line)

/-- TEST_FRAME_TAKEN (R71, R70). -/
def execTestFrameTaken (line : LineId) (s : State) : Host.Outcome State Fault Refusal :=
  .next (s.setPart (s.part.testFrameTaken line))

/-- HUNT_RESUMES (R64). -/
def execHuntResumes (line : LineId) (s : State) : Host.Outcome State Fault Refusal :=
  .next (s.modRoom fun r => r.huntResumes line)

/-- EDGE_TAKEN_AS_NOISE (R64). -/
def execEdgeTakenAsNoise (line : LineId) (s : State) : Host.Outcome State Fault Refusal :=
  .next (s.modRoom fun r => r.edgeTakenAsNoise line)

end Sys2Proof.Machine
end

