-- ==== Sys2Proof/Machine/Sending.lean ====
section
/-! DEFINITION. Characters going out (R62), page data read through the cursor (R32, R87), and what the sending of a
PAGE-CLOSE, RESYNC and JOB-START brings about (R87, R88, R94, R134). -/

namespace Sys2Proof.Machine

/-- A frame of the page's body is due already. -/
def OutFrame.isBody : OutFrame → Bool
  | .data _ | .pageClose _ => true
  | _ => false

/-- With the frame in transmission sent to its last character, the page's next DATA or PAGE-CLOSE becomes due ahead of
the rest: 256 bytes, or what remains, taken through the cursor (R32, R87). `none`: a DRAM address does not exist. The
moment is the model's choice (DESIGN CHOICE, log entry 36): R32 does not say when the cursor advances over a piece, and
here it advances by the whole piece as the last character of the frame before begins. -/
def Line.fetch (dram : List (Nat × Byte)) (blocks : Nat) (y : Line) : Option Line :=
  match y.page with
  | none => some y
  | some pg =>
    match pg.cursor with
    | none => some y
    | some off =>
      if pg.closing || !y.tx.sending.isEmpty || y.tx.due.any OutFrame.isBody then some y
      else if off < pg.entry.length then
        let n := min Config.dataBytes (pg.entry.length - off)
        (Dram.readRun blocks pg.entry.chain dram off n).map fun bytes =>
          { y with tx := { y.tx with due := .data bytes :: y.tx.due }
                   page := some { pg with cursor := some (off + n) } }
      else
        some { y with tx := { y.tx with due := .pageClose pg.entry.length :: y.tx.due }
                      page := some { pg with closing := true } }

/-- The shift stage still sends the END of a frame whose sending is a step of its own. -/
def Transmitter.finishing (t : Transmitter) : Bool :=
  match t.shift with
  | some c =>
    match c.role with
    | .ends _ => true
    | _ => false
  | none => false

/-- TAKE as the transmitter samples it: the pin, or the internal GIVE in LOOPBACK (R62, R70). -/
def Line.takeSeen (y : Line) (pin : Bool) : Bool :=
  match y.state with
  | .loopback => y.rx.room
  | _ => pin

/-- The internal path of a LOOPBACK line is free for a character: of those before it at most one is still to be received,
since a character's stop sample comes before the second start bit after its own (R62, R64, R70; log entry 22). -/
def Line.pathFree (y : Line) : Bool := y.state != .loopback || decide (y.rx.path.length ≤ 1)

/-- A held character begins its start bit (R62): the gap after a loss has passed (R78), the poll timer reloads (R85),
and in LOOPBACK the character goes onto the internal path (R70). -/
def Line.startChar (y : Line) (c : TxChar) : Line :=
  { y with
    tx := { y.tx with hold := none, shift := some c, gapOwed := false,
                      pollDue := y.tx.pollDue && c.role ≠ .pollBegin }
    poll := y.poll.map fun _ => y.proto.poll
    rx := { y.rx with path := if y.state = .loopback then y.rx.path ++ [{ value := c.value, marker := c.marker }]
                              else y.rx.path } }

/-- CHARACTER_START (R62): with the shift stage free and TAKE active the held character starts and the PLP offers the
next. A line that is DISABLED does not sample TAKE. `none`: a DRAM address does not exist. -/
def Part.characterStart (p : Part) (l : LineId) (pin : Bool) : Option Part :=
  let y := p.room.line l
  if y.state = .disabled then some p
  else
    let y := if y.state.live then { y with tx := { y.tx with take := pin } } else y
    match y.tx.hold with
    | some c =>
      if !y.tx.finishing && y.takeSeen pin && y.pathFree then
        ((y.startChar c).fetch p.dram p.room.store.blocks).map fun y =>
          { p with room := p.room.setLine l y.offer }
      else some { p with room := p.room.setLine l y }
    | none => some { p with room := p.room.setLine l y }

/-- The shift stage has just sent the END of this frame. -/
def Line.justSent (y : Line) : Option Sent :=
  match y.tx.shift with
  | some c =>
    match c.role with
    | .ends f => some f
    | _ => none
  | none => none

/-- The shift stage is empty. -/
def Line.clearShift (y : Line) : Line := { y with tx := { y.tx with shift := none } }

/-- The entry of the page just sent: the first unclosed one is marked closed (R87). -/
def closeFirst : List Entry → List Entry
  | [] => []
  | e :: es => if e.closed then e :: closeFirst es else { e with closed := true } :: es

/-- Under count source SENT the entry of the page just sent is removed and confirmed (R134). -/
def Room.confirmSent (r : Room) (l : LineId) : Room :=
  let w := (r.line l).window
  match w.dropWhile fun e => e.closed with
  | e :: rest =>
    (r.modLine l fun y => { y with window := (w.takeWhile fun e => e.closed) ++ rest }).confirm l e
  | [] => r

/-- PAGE_CLOSE_SENT (R87): the cursor ends and a deferred release takes effect (R31), an owed JOB-END(COMPLETE)
becomes due (R88, R93), the entry is closed or confirmed (R134), and the line goes on. DESIGN CHOICE: that order, log 44. -/
def Room.pageCloseSent (r : Room) (l : LineId) : Room :=
  if (r.line l).justSent = some .pageClose then
    let r := ((r.modLine l Line.clearShift).endRead l).sendOwedEnd l
    let r :=
      match (r.line l).count.source with
      | .exit => r.modLine l fun y => { y with window := closeFirst y.window }
      | .sent => r.confirmSent l
    (r.failoverIfDue l).proceed l
  else r

/-- RESYNC_SENT (R94): in RECOVERING, when the RESYNC is that of the present recovery, the next frame is chosen from the
job's condition; elsewhere RESYNC was the last debt of a closed record. -/
def Room.resyncSent (r : Room) (l : LineId) : Room :=
  match (r.line l).justSent with
  | some (.resync turn) =>
    let r := r.modLine l Line.clearShift
    match (r.line l).job with
    | some j =>
      if (r.line l).state = .recovering ∧ (r.line l).turn = turn then
        match r.job j with
        | some x =>
          if x.endCase then r.endJob l j x
          else r.modLine l fun y => y.push (.jobStart x.tag x.runCount turn)
        | none => r
      else r
    | none => r
  | _ => r

/-- JOB_START_SENT (R86, R94): when it announced the present binding and the present recovery, instances may be opened;
a RECOVERING line enters BUSY, and the line goes on. -/
def Room.jobStartSent (r : Room) (l : LineId) : Room :=
  match (r.line l).justSent with
  | some (.jobStart turn) =>
    let r := r.modLine l Line.clearShift
    if (r.line l).job.isSome ∧ (r.line l).turn = turn then
      (r.modLine l fun y =>
        ({ y with started := true
                  state := if y.state = .recovering then .busy else y.state } : Line).sync).proceed l
    else r
  | _ => r

end Sys2Proof.Machine
end

