-- ==== Sys2Proof/Machine/SendCommands.lean ====
section
/-! DEFINITION. The meanings of the rows of the transmitter: characters begun and frames sent. -/

namespace Sys2Proof.Machine

/-- CHARACTER_START (R62, R87); a chain that names a block the store does not have is a fault. -/
def execCharacterStart (line : LineId) (take : Bool) (s : State) : Host.Outcome State Fault Refusal :=
  match s.part.characterStart line take with
  | some p => .next (s.setPart p)
  | none => .fault .dramAddress

/-- TEST_SENT (R71). -/
def execTestSent (line : LineId) (s : State) : Host.Outcome State Fault Refusal :=
  .next (s.setPart (s.part.testSent line))

/-- PAGE_CLOSE_SENT (R87). -/
def execPageCloseSent (line : LineId) (s : State) : Host.Outcome State Fault Refusal :=
  .next (s.modRoom fun r => r.pageCloseSent line)

/-- RESYNC_SENT (R94). -/
def execResyncSent (line : LineId) (s : State) : Host.Outcome State Fault Refusal :=
  .next (s.modRoom fun r => r.resyncSent line)

/-- JOB_START_SENT (R86, R94). -/
def execJobStartSent (line : LineId) (s : State) : Host.Outcome State Fault Refusal :=
  .next (s.modRoom fun r => r.jobStartSent line)

end Sys2Proof.Machine
end

