-- ==== Sys2Proof/Machine/TimerCommands.lean ====
section
/-! DEFINITION. The meanings of the rows of timers and of the beacon generators. -/

namespace Sys2Proof.Machine

/-- SILENCE_EXPIRY (R84). -/
def execSilenceExpiry (line : LineId) (s : State) : Host.Outcome State Fault Refusal :=
  .next (s.modRoom fun r => r.silenceExpiry line)

/-- POLL_EXPIRY (R85). -/
def execPollExpiry (line : LineId) (s : State) : Host.Outcome State Fault Refusal :=
  .next (s.modRoom fun r => r.pollExpiry line)

/-- STALL_TIMER_EXPIRY (R53). -/
def execStallTimerExpiry (line : LineId) (s : State) : Host.Outcome State Fault Refusal :=
  .next (s.modRoom fun r => r.stallTimerExpiry line)

/-- ESCALATION_EXPIRY (R146). -/
def execEscalationExpiry (line : LineId) (s : State) : Host.Outcome State Fault Refusal :=
  .next (s.modRoom fun r => r.escalationExpiry line)

/-- FAILOVER_EXPIRY (R156). -/
def execFailoverExpiry (line : LineId) (s : State) : Host.Outcome State Fault Refusal :=
  .next (s.modRoom fun r => r.failoverExpiry line)

/-- ECHO_WAIT_EXPIRY (R71). -/
def execEchoWaitExpiry (line : LineId) (s : State) : Host.Outcome State Fault Refusal :=
  .next (s.setPart (s.part.echoWaitExpiry line))

/-- INTERVAL_EXPIRY (R121, R123). -/
def execIntervalExpiry (s : State) : Host.Outcome State Fault Refusal :=
  .next (s.modRoom Room.intervalExpiry)

/-- CLOSE_SCAN_TICK (R125, R127). -/
def execCloseScanTick (s : State) : Host.Outcome State Fault Refusal :=
  .next (s.modRoom Room.closeScanTick)

/-- BEACON_PERIOD_END (R165). -/
def execBeaconPeriodEnd (bay : BayId) (s : State) : Host.Outcome State Fault Refusal :=
  .next (s.modRoom fun r => { r with floor := r.floor.periodEnd bay })

/-- BEACON_ON_TIME_END (R165). -/
def execBeaconOnTimeEnd (bay : BayId) (s : State) : Host.Outcome State Fault Refusal :=
  .next (s.modRoom fun r => { r with floor := r.floor.onTimeEnd bay })

end Sys2Proof.Machine
end

