-- ==== Sys2Proof/Machine/Dispatch.lean ====
section
/-! DEFINITION. Dispatch: one arm per command, each a call of its meaning. -/

namespace Sys2Proof.Machine

def exec (i : Instr) (s : State) : Host.Outcome State Fault Refusal :=
  match i with
  | .powerOnReset => Sys2Proof.Machine.execPowerOnReset s
  | .resetRelease strap => Sys2Proof.Machine.execResetRelease strap s
  | .enterUnconfigured => Sys2Proof.Machine.execEnterUnconfigured s
  | .requestArrival hsi => Sys2Proof.Machine.execRequestArrival hsi s
  | .partialFrameDiscarded => Sys2Proof.Machine.execPartialFrameDiscarded s
  | .replyShiftedOut => Sys2Proof.Machine.execReplyShiftedOut s
  | .badVerdictReply => Sys2Proof.Machine.execBadVerdictReply s
  | .identify => Sys2Proof.Machine.execIdentify s
  | .start => Sys2Proof.Machine.execStart s
  | .restart => Sys2Proof.Machine.execRestart s
  | .linkStatus => Sys2Proof.Machine.execLinkStatus s
  | .queuePeek => Sys2Proof.Machine.execQueuePeek s
  | .nextNotice take => Sys2Proof.Machine.execNextNotice take s
  | .setLine => Sys2Proof.Machine.execSetLine s
  | .lineQuery take => Sys2Proof.Machine.execLineQuery take s
  | .lineTest => Sys2Proof.Machine.execLineTest s
  | .setBay => Sys2Proof.Machine.execSetBay s
  | .setPattern => Sys2Proof.Machine.execSetPattern s
  | .jobOpen => Sys2Proof.Machine.execJobOpen s
  | .pageBegin => Sys2Proof.Machine.execPageBegin s
  | .pageData => Sys2Proof.Machine.execPageData s
  | .pageEnd => Sys2Proof.Machine.execPageEnd s
  | .jobClose => Sys2Proof.Machine.execJobClose s
  | .jobHold => Sys2Proof.Machine.execJobHold s
  | .jobRelease => Sys2Proof.Machine.execJobRelease s
  | .jobCancel => Sys2Proof.Machine.execJobCancel s
  | .jobQuery => Sys2Proof.Machine.execJobQuery s
  | .jobReap => Sys2Proof.Machine.execJobReap s
  | .setRate => Sys2Proof.Machine.execSetRate s
  | .accountSet => Sys2Proof.Machine.execAccountSet s
  | .accountRead => Sys2Proof.Machine.execAccountRead s
  | .accountDelete => Sys2Proof.Machine.execAccountDelete s
  | .setClose => Sys2Proof.Machine.execSetClose s
  | .closePeriod => Sys2Proof.Machine.execClosePeriod s
  | .alertQuery => Sys2Proof.Machine.execAlertQuery s
  | .alertAck => Sys2Proof.Machine.execAlertAck s
  | .setEscalation => Sys2Proof.Machine.execSetEscalation s
  | .characterReceived line value marker parity stop => Sys2Proof.Machine.execCharacterReceived line value marker parity stop s
  | .gapTimeout line => Sys2Proof.Machine.execGapTimeout line s
  | .hello line => Sys2Proof.Machine.execHello line s
  | .status line => Sys2Proof.Machine.execStatus line s
  | .exit line => Sys2Proof.Machine.execExit line s
  | .jam line => Sys2Proof.Machine.execJam line s
  | .halt line => Sys2Proof.Machine.execHalt line s
  | .cleared line => Sys2Proof.Machine.execCleared line s
  | .testFrameTaken line => Sys2Proof.Machine.execTestFrameTaken line s
  | .echoWaitExpiry line => Sys2Proof.Machine.execEchoWaitExpiry line s
  | .characterStart line take => Sys2Proof.Machine.execCharacterStart line take s
  | .testSent line => Sys2Proof.Machine.execTestSent line s
  | .pageCloseSent line => Sys2Proof.Machine.execPageCloseSent line s
  | .resyncSent line => Sys2Proof.Machine.execResyncSent line s
  | .jobStartSent line => Sys2Proof.Machine.execJobStartSent line s
  | .silenceExpiry line => Sys2Proof.Machine.execSilenceExpiry line s
  | .pollExpiry line => Sys2Proof.Machine.execPollExpiry line s
  | .stallTimerExpiry line => Sys2Proof.Machine.execStallTimerExpiry line s
  | .escalationExpiry line => Sys2Proof.Machine.execEscalationExpiry line s
  | .failoverExpiry line => Sys2Proof.Machine.execFailoverExpiry line s
  | .intervalExpiry => Sys2Proof.Machine.execIntervalExpiry s
  | .closeScanTick => Sys2Proof.Machine.execCloseScanTick s
  | .beaconPeriodEnd bay => Sys2Proof.Machine.execBeaconPeriodEnd bay s
  | .ackPress bay => Sys2Proof.Machine.execAckPress bay s
  | .shiftEdge rising => Sys2Proof.Machine.execShiftEdge rising s
  | .ackRelease bay => Sys2Proof.Machine.execAckRelease bay s
  | .huntResumes line => Sys2Proof.Machine.execHuntResumes line s
  | .edgeTakenAsNoise line => Sys2Proof.Machine.execEdgeTakenAsNoise line s
  | .beaconOnTimeEnd bay => Sys2Proof.Machine.execBeaconOnTimeEnd bay s

end Sys2Proof.Machine
end

