-- ==== Sys2Proof/Machine/Tick.lean ====
section
/-! DEFINITION. One tick of the 1 ms time base, which is what a step does on an empty queue (log entry 2): the millisecond
counter, every running timer and every beacon generator advance, the floor inputs are sampled, a close in flight goes on,
and each timer that has run out has its expiry there and then. -/

namespace Sys2Proof.Machine

/-! ## One millisecond of time -/

/-- One millisecond off a timer. -/
def tickTimer (t : Option Nat) : Option Nat := t.map fun n => n - 1

/-- The failover timer one millisecond later. -/
def Failover.tick : Failover → Failover
  | .running n => .running (n - 1)
  | .none => .none
  | .due => .due
  | .taken => .taken

/-- A record one millisecond later. -/
def Alert.tick (a : Alert) : Alert := { a with timer := tickTimer a.timer, failover := a.failover.tick }

/-- A line one millisecond later. -/
def Line.tick (y : Line) : Line :=
  { y with
    silence := tickTimer y.silence, poll := tickTimer y.poll, stall := tickTimer y.stall, echo := tickTimer y.echo
    alert := y.alert.map Alert.tick }

/-- A beacon one millisecond later: the position advances by one, and at the loaded period the generator loads the
selection at position 0 (R165). -/
def Beacon.tick (f : Floor) (k : Beacon) : Beacon :=
  { k with gen := k.gen.map fun g => if g.pos + 1 < g.period then { g with pos := g.pos + 1 } else f.loaded k.sel }

/-- The floor's generators one millisecond later. -/
def Floor.tick (f : Floor) : Floor := { f with beacons := mapTable (Beacon.tick f) f.beacons }

/-- The room one millisecond later, before anything expires. -/
def Room.tick (r : Room) : Room :=
  { r with
    ms := r.ms + 1
    lines := mapTable Line.tick r.lines
    meter := { r.meter with timer := tickTimer r.meter.timer }
    floor := r.floor.tick }

/-! ## Expiries -/

/-- The timers of a line that have run out expire, each as it stands when its turn comes: silence, poll, stall,
escalation and failover (log entry 2). -/
def Room.lineExpiries (r : Room) (l : LineId) : Room :=
  let r := if (r.line l).silence = some 0 then r.silenceExpiry l else r
  let r := if (r.line l).poll = some 0 then r.pollExpiry l else r
  let r := if (r.line l).stall = some 0 then r.stallTimerExpiry l else r
  let r := if (r.line l).alert.bind Alert.timer = some 0 then r.escalationExpiry l else r
  if (r.line l).alert.map Alert.failover = some (.running 0) then r.failoverExpiry l else r

/-- The same, and the echo wait of a LINE-TEST after them. -/
def Part.lineExpiries (p : Part) (l : LineId) : Part :=
  let p := { p with room := p.room.lineExpiries l }
  if (p.room.line l).echo = some 0 then p.echoWaitExpiry l else p

/-- What a tick in RUNNING brings after the passing of the millisecond: the scan of a close in flight, which the first
tick after its start begins (R125), the floor inputs' samples, the lines' expiries from PL0 up, and the interval timer's
(log entry 2). -/
def Part.expiries (p : Part) : Part :=
  let p := ({ p with room := p.room.closeScanTick } : Part).sampleFloor
  let p := (List.finRange 24).foldl Part.lineExpiries p
  if p.room.meter.timer = some 0 then { p with room := p.room.intervalExpiry } else p

/-- One tick: in POWER_CLEAR nothing runs; after that the millisecond counter does (R140); in UNCONFIGURED the input
filters too (R167); in RUNNING everything. -/
def Part.tick (p : Part) : Part :=
  match p.link.phase with
  | .powerClear => p
  | .strap => { p with room := { p.room with ms := p.room.ms + 1 } }
  | .unconfigured => ({ p with room := { p.room with ms := p.room.ms + 1 } } : Part).sampleFloor
  | .running => ({ p with room := p.room.tick } : Part).expiries

/-- One tick of the whole machine; the queue stays empty. -/
def State.tick (s : State) : State := s.setPart s.part.tick

end Sys2Proof.Machine
end

