-- ==== Sys2Proof/Machine/Pins.lean ====
section
/-! DEFINITION. The output pins as functions of the state (R57, R72, R165, R166, R175, R179), and a line's rate
(R59). -/

namespace Sys2Proof.Machine

/-- HRDY is active while the reply queue holds a reply (R175), but not in POWER_CLEAR and STRAP (R171). -/
def Part.hrdy (p : Part) : Bool := p.link.phase.answers && !p.link.replies.isEmpty

/-- HATTN is active while the attention list holds a key (R179), but not in POWER_CLEAR and STRAP (R171, R185). -/
def Part.hattn (p : Part) : Bool := p.link.phase.answers && !p.room.attn.isEmpty

/-- GIVE of a line is active (R67, R72). -/
def Part.givePin (p : Part) (l : LineId) : Bool := decide (p.link.phase = .running) && (p.room.line l).give

/-- The BEACON pin of a bay is lit: its generator's position is below the loaded on-time (R165, R170). -/
def Beacon.lit (k : Beacon) : Bool :=
  match k.gen with
  | some g => decide (g.pos < g.onTime)
  | none => false

/-- The BELL pin (R166). -/
def Part.bellPin (p : Part) : Bool := p.room.floor.bell

/-- The levels of a character on the wire, start bit first, one entry a bit time, mark being true (R57). -/
def wireBits (f : Format) (value : Byte) (marker : Bool) : List Bool :=
  [false] ++ (List.range 8).map (fun i => value.getLsbD i) ++ [marker] ++
    (match f.parity.bit value marker with
      | some b => [b]
      | none => []) ++
    (if f.twoStops then [true, true] else [true])

/-- The level of a line's transmitter, mark being true, this many whole bit times after the start bit of the character in
its shift stage began: that character's levels, and mark once it is sent and between characters (R57, R62). -/
def Line.output (y : Line) (bitTimes : Nat) : Bool :=
  match y.tx.shift with
  | some c => (wireBits y.fmt c.value c.marker).getD bitTimes true
  | none => true

/-- The TX pin of a line: its transmitter's level in RUNNING on a live line, and mark in every other lifephase and line
state, DISABLED and LOOPBACK among them (R70, R72). -/
def Part.txPin (p : Part) (l : LineId) (bitTimes : Nat) : Bool :=
  match p.link.phase, (p.room.line l).state.live with
  | .running, true => (p.room.line l).output bitTimes
  | _, _ => true

/-- The input of a line's receiver: the RX pin, or, in LOOPBACK, the internal path from its own transmitter (R63, R70). -/
def Line.input (y : Line) (rx : Bool) (bitTimes : Nat) : Bool :=
  match y.state with
  | .loopback => y.output bitTimes
  | _ => rx

/-- RX of a line is sampled, by tick of its own clock; TAKE is, at each character start (R72). -/
def Part.samples (p : Part) (l : LineId) : Bool := decide (p.link.phase = .running) && (p.room.line l).state.live

/-- The divisor of the 192 MHz line clock that gives a line's tick (R59). -/
def Format.divisor (f : Format) : Nat := 2 ^ f.p * (16 + f.k)

/-- A line's baud rate, rounded down (R59). -/
def Format.baud (f : Format) : Nat := 192000000 / f.divisor / 8

end Sys2Proof.Machine
end

