-- ==== Sys2Proof/Machine/Sampling.lean ====
section
/-! DEFINITION. From samples of a receiver's input to the rows of the receiver: the eight-sample filter (R63), the sample times
(R64), and the row each run of samples brings. A line's sample clock is no part of the 1 ms tick that a step makes (log
entry 8): these functions say what a tick of that clock does to the line, for whoever fills the queue. -/

namespace Sys2Proof.Machine

/-- The bits sampled after the start bit: value, marker, a parity bit where the mode has one, stop (R57, R64). -/
def Parity.sampledBits (p : Parity) : Nat :=
  match p with
  | .none => 10
  | .odd | .even | .zero => 11

/-- The value of eight sampled bits, bit 0 first (R57). -/
def valueOf (bits : List Bool) : Byte :=
  BitVec.ofNat 8 (bits.reverse.foldl (fun n b => 2 * n + b.toNat) 0)

/-- The row of a completed character (R64, R65). -/
def characterRow (l : LineId) (p : Parity) (bits : List Bool) : Instr :=
  .characterReceived l (valueOf (bits.take 8)) (bits.getD 8 false)
    (match p with
      | .none => false
      | .odd | .even | .zero => bits.getD 9 false)
    (bits.getLastD false)

/-- The receiver at a tick that saw this filtered level, `fell` saying that it fell at this tick: it looks at the level at
tick 4, to confirm the start bit, and every 8 ticks from then on; and the row the tick brings (R63, R64). -/
def RxCond.tick (l : LineId) (p : Parity) (level fell : Bool) : RxCond → RxCond × Option Instr
  | .stopped => (.stopped, none)
  | .hunting => (if fell then .sampling 0 [] else .hunting, none)
  | .waitMark => (.waitMark, if level then some (.huntResumes l) else none)
  | .sampling tick bits =>
    if tick + 1 = 4 then (.sampling 4 [], if level then some (.edgeTakenAsNoise l) else none)
    else if tick + 1 < 12 ∨ (tick + 1) % 8 ≠ 4 then (.sampling (tick + 1) bits, none)
    else (.sampling (tick + 1) (bits ++ [level]),
      if (bits ++ [level]).length < p.sampledBits then none else some (characterRow l p (bits ++ [level])))

/-- One tick of a line's sample clock with this level at its receiver's input, and the row it brings, on a live line as in
LOOPBACK; the receiver of a DISABLED line does not sample (R63). -/
def Line.rxTick (l : LineId) (y : Line) (input : Bool) : Line × Option Instr :=
  if y.state ≠ .disabled then
    let filter := y.rx.filter.sample input
    let (cond, row) := y.rx.cond.tick l y.fmt.parity filter.level (y.rx.filter.level && !filter.level)
    ({ y with rx := { y.rx with filter := filter, cond := cond } }, row)
  else (y, none)

/-- A row of the receiver taken at once. -/
def Room.rxRow (r : Room) : Instr → Room
  | .characterReceived l value marker parity stop => r.characterReceived l value marker parity stop
  | .huntResumes l => r.huntResumes l
  | .edgeTakenAsNoise l => r.edgeTakenAsNoise l
  | _ => r

/-- One tick of a line's sample clock, and what its row brings; with the rows so far (R63 to R66). A sample is the level of
the RX pin, and the bit times since the start bit of the character in the line's shift stage, which a LOOPBACK line's
receiver sees instead (R70). -/
def Room.rxSample (l : LineId) (acc : Room × List Instr) (sample : Bool × Nat) : Room × List Instr :=
  let (y, row) := (acc.1.line l).rxTick l ((acc.1.line l).input sample.1 sample.2)
  match row with
  | none => (acc.1.setLine l y, acc.2)
  | some row => ((acc.1.setLine l y).rxRow row, acc.2 ++ [row])

/-- A run of samples on a line, oldest first: the room after it, and the rows it brought. -/
def Room.rxSamples (r : Room) (l : LineId) (samples : List (Bool × Nat)) : Room × List Instr :=
  samples.foldl (Room.rxSample l) (r, [])

end Sys2Proof.Machine
end

