-- ==== Sys2Proof/WellFormed.lean ====
section
/-! DEFINITION. Well-formed commands. Line, bay and account numbers are in range by their types; what is left to
check is that a REQUEST_ARRIVAL carries the bytes of a frame that arrives. -/

namespace Sys2Proof.WellFormed

/-- The transfer holds a sync byte C3h (R171). -/
def hasSync (hsi : List Byte) : Bool := (Wire.afterSync hsi).isSome

/-- The transfer carries a frame to its arrival (R173). -/
def arrives (hsi : List Byte) : Bool := (Wire.arrival hsi).isSome

end Sys2Proof.WellFormed

namespace Sys2Proof

/-- A command the outside world can bring. -/
def Instr.wf : Instr → Bool
  | .requestArrival hsi => WellFormed.hasSync hsi && WellFormed.arrives hsi
  | _ => true

end Sys2Proof
end

