-- ==== Sys2Proof/Safety.lean ====
section
/-! DEFINITION. The terms claims are made in: a request at the head of the buffer and its answer, marks on the
attention list, the settings of the part, the invariants, and the frames a printer sends. -/

namespace Sys2Proof.Machine

/-! ## Requests and their answers (R174, R175) -/

/-- The row of a request kind; `take` is the TAKE level that LINE_QUERY and NEXT_NOTICE bring. -/
def ReqKind.command (take : Bool) : ReqKind → Instr
  | .identify => .identify
  | .start => .start
  | .restart => .restart
  | .linkStatus => .linkStatus
  | .queuePeek => .queuePeek
  | .nextNotice => .nextNotice take
  | .setLine => .setLine
  | .lineQuery => .lineQuery take
  | .lineTest => .lineTest
  | .setBay => .setBay
  | .setPattern => .setPattern
  | .jobOpen => .jobOpen
  | .pageBegin => .pageBegin
  | .pageData => .pageData
  | .pageEnd => .pageEnd
  | .jobClose => .jobClose
  | .jobHold => .jobHold
  | .jobRelease => .jobRelease
  | .jobCancel => .jobCancel
  | .jobQuery => .jobQuery
  | .jobReap => .jobReap
  | .setRate => .setRate
  | .accountSet => .accountSet
  | .accountRead => .accountRead
  | .accountDelete => .accountDelete
  | .setClose => .setClose
  | .closePeriod => .closePeriod
  | .alertQuery => .alertQuery
  | .alertAck => .alertAck
  | .setEscalation => .setEscalation

/-- A good request of a kind stands at the head of the buffer and can be taken, with `rest` behind it (R174). -/
def Asked (s : State) (k : ReqKind) (tag : Byte) (payload : List Byte) (rest : List ReqFrame) : Prop :=
  s.part.link.phase.answers = true ∧ s.part.link.replies.length < 4 ∧ s.part.link.inHand = none ∧
    s.part.link.buffer = { kind := k.code, tag := tag, payload := payload, verdict := .good } :: rest

/-- The same, in a lifephase that takes the kind (R174). -/
def Taken (s : State) (k : ReqKind) (tag : Byte) (payload : List Byte) (rest : List ReqFrame) : Prop :=
  Asked s k tag payload rest ∧ k.refusal s.part.link.phase = none

/-- The state after an answered request: the frame has left the buffer, the room is as given, and the reply stands at
the tail of the reply queue, its summary byte taken from that state (R174, R175). -/
def State.answered (s : State) (k : ReqKind) (tag : Byte) (rest : List ReqFrame) (room : Room) (status : Status)
    (results : Results) : State :=
  let p : Part := { s.part with link := { s.part.link with buffer := rest }, room := room }
  { s with part := { p with link := { p.link with replies := s.part.link.replies ++
      [{ kind := k.code + 0x80#8, tag := tag, status := status, summary := p.summary, results := results }] } } }

/-- The state after a request that was refused with nothing changed. -/
def State.declined (s : State) (k : ReqKind) (tag : Byte) (rest : List ReqFrame) (status : Status)
    (results : Results) : State :=
  s.answered k tag rest s.part.room status results

/-- A payload of this length has a shape of its kind; for SET-LINE the flags byte says which groups follow (R176). -/
def ReqKind.fits (k : ReqKind) (payload : List Byte) : Bool :=
  match k with
  | .identify | .start | .restart | .linkStatus | .queuePeek | .nextNotice | .closePeriod => payload.length == 0
  | .setLine =>
    match payload with
    | _ :: flags :: rest =>
      rest.length == (if flags.getLsbD 4 then 2 else 0) + (if flags.getLsbD 5 then 2 else 0) +
        (if flags.getLsbD 6 then 5 else 0) + (if flags.getLsbD 7 then 7 else 0)
    | _ => false
  | .lineQuery => payload.length == 2
  | .lineTest => decide (1 ≤ payload.length)
  | .setBay => payload.length == 6
  | .setPattern => payload.length == 5
  | .jobOpen => payload.length == 15
  | .pageBegin => payload.length == 6 || payload.length == 7
  | .pageData => decide (2 ≤ payload.length)
  | .pageEnd | .jobClose | .jobHold | .jobRelease | .jobCancel | .jobQuery | .jobReap | .accountDelete =>
    payload.length == 2
  | .setRate => payload.length == 10
  | .accountSet => payload.length == 10
  | .accountRead => payload.length == 3
  | .setClose => payload.length == 4
  | .alertQuery | .alertAck => payload.length == 1
  | .setEscalation => payload.length == 7

/-! ## Payloads (R176) -/

/-- SET-LINE's flags byte: the two mode flags, and the groups present. -/
def SetLineArgs.flags (a : SetLineArgs) : Nat :=
  a.enable.toNat + 2 * a.loopback.toNat + 16 * a.character.isSome.toNat + 32 * a.rate.isSome.toNat +
    64 * a.protocol.isSome.toNat + 128 * a.counting.isSome.toNat

/-- SET-LINE's payload. -/
def SetLineArgs.payload (a : SetLineArgs) : List Byte :=
  Wire.field 1 a.line ++ Wire.field 1 a.flags ++
    (match a.character with
      | some (parity, stops) => Wire.field 1 parity ++ Wire.field 1 stops
      | none => []) ++
    (match a.rate with
      | some (p, k) => Wire.field 1 p ++ Wire.field 1 k
      | none => []) ++
    (match a.protocol with
      | some (depth, silence, poll) => Wire.field 1 depth ++ Wire.field 2 silence ++ Wire.field 2 poll
      | none => []) ++
    match a.counting with
    | some (source, offset, tolerance) => Wire.field 1 source ++ Wire.field 4 offset ++ Wire.field 2 tolerance
    | none => []

/-- Every operand of SET-LINE fits its field. -/
def SetLineArgs.fitsFields (a : SetLineArgs) : Prop :=
  a.line < 256 ∧ (∀ c, a.character = some c → c.1 < 256 ∧ c.2 < 256) ∧
    (∀ c, a.rate = some c → c.1 < 256 ∧ c.2 < 256) ∧
    (∀ c, a.protocol = some c → c.1 < 256 ∧ c.2.1 < 65536 ∧ c.2.2 < 65536) ∧
    (∀ c, a.counting = some c → c.1 < 256 ∧ c.2.1 < 4294967296 ∧ c.2.2 < 65536)

/-- JOB-OPEN's payload. -/
def JobOpenArgs.payload (a : JobOpenArgs) : List Byte :=
  Wire.field 4 a.tag ++ Wire.field 2 a.account ++ Wire.field 1 a.targetKind ++ Wire.field 1 a.target ++
    Wire.field 1 a.cls ++ Wire.field 2 a.copies ++ Wire.field 1 a.colour ++
    Wire.field 1 (a.duplex.toNat + 2 * a.earlyStart.toNat + 4 * a.splitAllowed.toNat) ++ Wire.field 2 a.media

/-- Every operand of JOB-OPEN fits its field. -/
def JobOpenArgs.fitsFields (a : JobOpenArgs) : Prop :=
  a.tag < 4294967296 ∧ a.account < 65536 ∧ a.targetKind < 256 ∧ a.target < 256 ∧ a.cls < 256 ∧ a.copies < 65536 ∧
    a.colour < 256 ∧ a.media < 65536

/-- PAGE-BEGIN's payload. -/
def PageBeginArgs.payload (a : PageBeginArgs) : List Byte :=
  Wire.field 2 a.slot ++ Wire.field 1 a.media ++ Wire.field 1 a.sides ++ Wire.field 1 a.colour ++
    Wire.field 1 a.front ++
    match a.back with
    | some back => Wire.field 1 back
    | none => []

/-- Every operand of PAGE-BEGIN fits its field. -/
def PageBeginArgs.fitsFields (a : PageBeginArgs) : Prop :=
  a.slot < 65536 ∧ a.media < 256 ∧ a.sides < 256 ∧ a.colour < 256 ∧ a.front < 256 ∧
    ∀ back, a.back = some back → back < 256

/-- ACCOUNT-SET's payload. -/
def AccountSetArgs.payload (a : AccountSetArgs) : List Byte :=
  Wire.field 2 a.account ++ Wire.field 1 a.mode ++ Wire.field 4 a.limit ++ Wire.field 1 a.watermark ++
    Wire.field 2 a.factor

/-- Every operand of ACCOUNT-SET fits its field. -/
def AccountSetArgs.fitsFields (a : AccountSetArgs) : Prop :=
  a.account < 65536 ∧ a.mode < 256 ∧ a.limit < 4294967296 ∧ a.watermark < 256 ∧ a.factor < 65536

/-! ## Marks (R179) -/

/-- The source's key is on the attention list and carries the mark. -/
def Room.marked (r : Room) (src : Source) (m : Mark) : Prop := ∃ k ∈ r.attn, k.src = src ∧ m ∈ k.marks

/-- The attention list holds each key once, no key without a mark (R179), and the marks of a key in the order of the table
of section 11.5, each kind once (R180). -/
def attnSound (ks : List Key) : Prop :=
  (ks.map Key.src).Nodup ∧ ∀ k ∈ ks, k.marks ≠ [] ∧ k.marks.Pairwise fun m n => m.rank < n.rank

/-! ## Invariants -/

/-- The used blocks stand in rising order, each below N (R25, R26); before STRAP the pool is untouched (R37). -/
def Part.storeSound (p : Part) : Prop :=
  p.room.store.used.Pairwise (· < ·) ∧ (∀ b ∈ p.room.store.used, b < p.room.store.blocks) ∧
    (p.link.phase = .powerClear → p.room.store.used = [])

/-- The host link's capacities: 4 frames, 4 replies, and a place left for the reply of a request in hand (R173 to
R175). -/
def Link.sound (k : Link) : Prop :=
  k.buffer.length ≤ 4 ∧ k.replies.length ≤ 4 ∧ (k.inHand ≠ none → k.replies.length ≤ 3)

/-- Every inbound frame queue holds at most 4 frames (R67). -/
def Room.inboundSound (r : Room) : Prop := ∀ l, (r.line l).rx.queue.length ≤ 4

/-- A line has an open record exactly in ALERT (R140), a silence timer only while it is attached (R84), and before
RUNNING every line is DISABLED (R182). -/
def Part.linesSound (p : Part) : Prop :=
  (∀ l, (p.room.line l).alert ≠ none ↔ (p.room.line l).state = .alert) ∧
    (∀ l, (p.room.line l).silence ≠ none → (p.room.line l).state.attached = true) ∧
    (p.link.phase ≠ .running → ∀ l, (p.room.line l).state = .disabled)

/-- Every bay's selection is the one its open records call for (R164), and the bell rings exactly when some open record
is at level 3 and not acknowledged (R166). -/
def Room.floorSound (r : Room) : Prop :=
  (∀ b, (r.floor.beacons.get b).sel = r.selection b) ∧
    (r.floor.bell = true ↔ ∃ l a, (r.line l).alert = some a ∧ a.level = .three ∧ a.acked = false)

/-- The charges of an account in all window entries (R119). -/
def Room.charges (r : Room) (a : AcctId) : Nat :=
  ((List.finRange 24).flatMap fun l =>
    ((r.line l).window.filter fun e => e.account = a).map Entry.charge).sum

/-- The jobs, in any slot that is not FREE, that bill an account (R109). -/
def Room.billed (r : Room) (a : AcctId) : Nat :=
  ((List.finRange 256).filter fun j => (r.job j).any fun x => decide (x.account = a)).length

/-- For every account held equals the sum of its charges (R119), and its job references count the jobs that bill it
(R109); an ABSENT account has neither. -/
def Room.accountsSound (r : Room) : Prop :=
  ∀ a, r.charges a = ((r.account a).map Account.held).getD 0 ∧ r.billed a = ((r.account a).map Account.refs).getD 0

/-- While no close is in flight every ACTIVE account's epoch is the device epoch (R127); while one is, so is the epoch
of every account below the scan position (R125). -/
def Room.epochsSound (r : Room) : Prop :=
  ∀ a x, r.account a = some x → (∀ pos, r.meter.scan = some pos → a.val < pos) → x.epoch = r.meter.epoch

/-- For every HARD account consumed and held together are at most its limit (R111). -/
def Room.hardSound (r : Room) : Prop :=
  ∀ a x, r.account a = some x → x.mode = .hard → x.consumed + x.held ≤ x.limit

/-- Queues, jobs and lines agree on who waits where and who is bound to whom (R1, R40, R41, R47, R79). -/
structure Room.bindingsSound (r : Room) : Prop where
  /-- A job names its bound line exactly when that line names the job (R47). -/
  bound : ∀ j x l, r.job j = some x → (x.bound = some l ↔ (r.line l).job = some j)
  /-- A line names a job that exists (R47). -/
  exists_job : ∀ l j, (r.line l).job = some j → r.job j ≠ none
  /-- A line holds a job in BUSY and RECOVERING, and may hold one in ALERT, and holds none elsewhere (R79). -/
  lineStates : ∀ l,
    ((r.line l).job ≠ none →
      (r.line l).state = .busy ∨ (r.line l).state = .recovering ∨ (r.line l).state = .alert) ∧
    ((r.line l).state = .busy ∨ (r.line l).state = .recovering → (r.line l).job ≠ none)
  /-- A job is bound in ACTIVE, STALLED and SUSPENDED, may be in ABORTED, and is not elsewhere (section 1.4). -/
  jobStates : ∀ j x, r.job j = some x →
    (x.state = .active ∨ x.state = .stalled ∨ x.state = .suspended → x.bound ≠ none) ∧
    (x.bound ≠ none → x.state = .active ∨ x.state = .stalled ∨ x.state = .suspended ∨ x.state = .aborted)
  /-- A job is in the queue of its target, once, exactly when it is QUEUED, and in no other queue (R40). -/
  queued : ∀ target j, (r.queue target).count j =
    match r.job j with
    | some x => if x.state = .queued ∧ x.target = target then 1 else 0
    | none => 0
  /-- Every queue is in class order (R41). -/
  ordered : ∀ target, (r.queue target).Pairwise fun j k => r.classRank j ≤ r.classRank k

/-- The number of a job's instances before one (R4). -/
def Job.place (x : Job) (copy page : Nat) : Nat := (copy - 1) * x.pageCount + (page - 1)

/-- The number of a job's instances before its next-send position; those at or after it are not yet sent (R4). -/
def Job.sent (x : Job) : Nat :=
  match x.pos with
  | .at copy page => x.place copy page
  | .done => x.copies * x.pageCount

/-- The next-send position is one of the three kinds of R4, in copy 1 while intake is OPEN. -/
def Job.posSound (x : Job) : Prop :=
  match x.pos with
  | .at copy page =>
    1 ≤ copy ∧ copy ≤ x.copies ∧ 1 ≤ page ∧ (page ≤ x.pageCount ∨ x.intakeOpen = true ∧ page = x.pageCount + 1) ∧
      (x.intakeOpen = true → copy = 1)
  | .done => x.intakeOpen = false

/-- Confirmed, in flight and not yet sent make up every instance of a job, and every window is a run of instances that
starts after the confirmed ones (R4, R20, R86). -/
structure Room.windowsSound (r : Room) : Prop where
  /-- The position is of a kind that R4 names, but for a job that is DONE or ABORTED. -/
  pos : ∀ j x, r.job j = some x → x.state ≠ .done → x.state ≠ .aborted → x.posSound
  /-- An open page, and no DONE job, has intake OPEN (R2, R21). -/
  openPage : ∀ j x, r.job j = some x → (x.openPage ≠ none → x.intakeOpen = true) ∧
    (x.state = .done → x.intakeOpen = false)
  /-- Instances confirmed, entries in flight and instances not yet sent make copies × page count (R4). -/
  equality : ∀ j x, r.job j = some x → x.state ≠ .aborted →
    x.sent ≤ x.copies * x.pageCount ∧
      x.confirmed + r.inFlight j x + (x.copies * x.pageCount - x.sent) = x.copies * x.pageCount
  /-- Every entry is an instance of the job bound to its line, and they follow the confirmed ones in order (R86). -/
  window : ∀ l, (r.line l).window ≠ [] → ∃ j x, (r.line l).job = some j ∧ r.job j = some x ∧
    (r.line l).window.map (fun e => x.place e.copy e.page) = List.range' x.confirmed (r.line l).window.length ∧
    ∀ e ∈ (r.line l).window, e.job = j ∧ 1 ≤ e.copy ∧ e.copy ≤ x.copies ∧ 1 ≤ e.page ∧ e.page ≤ x.pageCount ∧
      (x.intakeOpen = true → e.copy = 1)
  /-- A window holds entries only in BUSY and ALERT, in ALERT only while no loss has occurred (R79, R92). -/
  states : ∀ l, (r.line l).window ≠ [] → ((r.line l).state = .busy ∨ (r.line l).state = .alert) ∧
    ∀ a, (r.line l).alert = some a → a.loss = false
  /-- No window holds more entries than its effective depth (R86). -/
  depth : ∀ l, (r.line l).window.length ≤ (r.line l).depth
  /-- Under count source SENT no entry is closed and still held (R134). -/
  source : ∀ l, (r.line l).count.source = .sent → ∀ e ∈ (r.line l).window, e.closed = false

/-- The page entries of a job in use: its open page, and its page list (R2). -/
def Job.entries (x : Job) : List PageEntry := x.openPage.toList ++ x.pages

/-- The page entry of a cancelled job that a line still reads (R31). -/
def Line.keptEntry (y : Line) : Option PageEntry :=
  match y.page with
  | some pg => if pg.deferred then some pg.entry else none
  | none => none

/-- Every page entry in use (R2, R31). -/
def Room.entries (r : Room) : List PageEntry :=
  ((List.finRange 256).flatMap fun j =>
    match r.job j with
    | some x => x.entries
    | none => []) ++
  (List.finRange 24).filterMap fun l => (r.line l).keptEntry

/-- Every block is in one place: free, or once in the chain of one page entry; and every entry is free or in use (R2, R26,
R27). -/
structure Room.blocksSound (r : Room) : Prop where
  /-- The blocks in use, in rising order, are those of the chains, each once (R27). -/
  place : (r.entries.flatMap PageEntry.chain).Perm r.store.used
  /-- The entries in use and the free ones make up the pool (R2). -/
  pool : r.freeEntries + r.entries.length = 16384
  /-- A page of length L has a chain of ceil(L / 8,192) blocks (R27). -/
  fill : ∀ e ∈ r.entries, e.chain.length = (e.length + 8191) / 8192
  /-- A DONE or ABORTED job holds no page, and an open page has intake OPEN (R2, R14, R21). -/
  ended : ∀ j x, r.job j = some x → (x.state = .done ∨ x.state = .aborted → x.entries = []) ∧
    (x.openPage ≠ none → x.intakeOpen = true)

/-! ## Settings -/

/-- The settings of a line (R60). -/
structure LineSettings where
  mode : LineMode
  bay : Option BayId
  fmt : Format
  proto : Protocol
  source : CountSource
  offset : BitVec 32
  tolerance : Nat
  deriving DecidableEq, Repr

/-- What the configuration requests write: line settings, bay table, rates, close settings, profiles, floor tables,
and the straps. -/
structure Settings where
  lines : List LineSettings
  stallTimeout : Vector Nat 8
  rates : Vector Rate 48
  closeMode : CloseMode
  edge : EdgeMode
  interval : Nat
  profiles : Vector Profile 5
  patterns : Vector PatternDef 6
  levelMap : Vector Pattern 3
  strap : BitVec 2
  deriving DecidableEq, Repr

/-- The settings of a line as it holds them. -/
def Line.settingsOf (y : Line) : LineSettings :=
  { mode := y.mode, bay := y.bay, fmt := y.fmt, proto := y.proto, source := y.count.source, offset := y.count.offset,
    tolerance := y.count.tolerance }

/-- The settings of the part. -/
def Part.settings (p : Part) : Settings :=
  { lines := p.room.lines.toList.map Line.settingsOf, stallTimeout := p.room.stallTimeout,
    rates := p.room.meter.rates, closeMode := p.room.meter.closeMode, edge := p.room.meter.edge,
    interval := p.room.meter.interval, profiles := p.room.profiles, patterns := p.room.floor.patterns,
    levelMap := p.room.floor.levelMap, strap := p.room.store.strap }

/-- The commands that may change a setting: power-on, the strap sample, and the configuration requests. -/
def configures : Instr → Bool
  | .powerOnReset | .resetRelease _ | .setLine | .setBay | .setPattern | .setRate | .setClose | .setEscalation => true
  | _ => false

/-! ## What a printer sends (R74, R77) -/

/-- The commands in order, each on the state the one before it left. -/
def State.runs : List Instr → State → Host.Outcome State Fault Refusal
  | [], s => .next s
  | c :: cs, s =>
    match exec c s with
    | .next s => s.runs cs
    | .fault r => .fault r
    | .refused r => .refused r

/-- The code of a colour capability (R77). -/
def ColourLevel.code : ColourLevel → Nat
  | .plain => 0
  | .spot => 1
  | .full => 2

/-- The kind code of a printer's frame (R77); TEST is LOOPBACK's own and no printer's. -/
def InFrame.code : InFrame → Byte
  | .hello _ _ _ _ _ _ => 0x40
  | .status _ => 0x41
  | .exit _ _ => 0x42
  | .jam _ => 0x43
  | .mediaOut _ | .coverOpen => 0x44
  | .cleared _ => 0x45
  | .test _ => 0x18

/-- The code of the condition a CLEARED names (R77); the other two kinds have none. -/
def CondKind.clearedCode : CondKind → Nat
  | .jam => 0
  | .mediaOut => 1
  | .coverOpen => 2
  | .noAnswer | .linkDown => 255

/-- The body of a printer's frame (R77). -/
def InFrame.body : InFrame → List Byte
  | .hello model sheets colour duplex media window =>
    Wire.field 2 model.toNat ++ Wire.field 4 sheets.toNat ++ Wire.field 1 colour.code ++
      Wire.field 1 duplex.toNat ++ Wire.field 2 media.toNat ++ Wire.field 1 window
  | .status ready => Wire.field 1 ready.toNat
  | .exit count sheets => Wire.field 1 count ++ Wire.field 4 sheets.toNat
  | .jam location => Wire.field 1 location
  | .mediaOut tray => Wire.field 1 0 ++ Wire.field 1 tray
  | .coverOpen => Wire.field 1 1 ++ Wire.field 1 0
  | .cleared kind => Wire.field 1 kind.clearedCode
  | .test body => body

/-- The frame's fields are in the ranges that a printer may send (R77). -/
def InFrame.legal : InFrame → Bool
  | .hello _ _ _ _ _ window => decide (1 ≤ window ∧ window ≤ 255)
  | .status _ => true
  | .exit count _ => decide (1 ≤ count ∧ count ≤ 15)
  | .jam location => decide (location ≤ 255)
  | .mediaOut tray => decide (tray ≤ 7)
  | .coverOpen => true
  | .cleared kind => kind == .jam || kind == .mediaOut || kind == .coverOpen
  | .test _ => false

/-- The frame as the part takes it: a printer window above 8 is 8, a jam location above 31 is 31 (R77). -/
def InFrame.asTaken : InFrame → InFrame
  | .hello model sheets colour duplex media window => .hello model sheets colour duplex media (min 8 window)
  | .jam location => .jam (min 31 location)
  | f => f

/-- A character as a printer sends it in the line's format, without an error (R57). -/
def sentChar (l : LineId) (f : Format) (value : Byte) (marker : Bool) : Instr :=
  .characterReceived l value marker ((f.parity.bit value marker).getD false) true

/-- The characters of a frame with this kind code and body: BEGIN, the body, END with the check (R74). -/
def sentFrame (l : LineId) (f : Format) (kind : Byte) (body : List Byte) : List Instr :=
  sentChar l f kind true :: (body.map fun b => sentChar l f b false) ++ [sentChar l f (Wire.crc8 kind body) true]

end Sys2Proof.Machine
end

