-- ==== Sys2Proof/Certificates/Slice0/Obligations.lean ====
section
/-! DEFINITION. The statements for the provers. -/

open Sys2Proof Sys2Proof.Machine

/-! ## The step -/

/-- A step takes the command at the front of the queue and runs it with the queue's rest. -/
def Obligations.StepRunsTheFrontCommand : Prop :=
  ∀ (s : State) (c : Instr) (rest : List Instr),
    step { s with pending := c :: rest } = exec c { s with pending := rest }

/-- The model's choice (log entry 2): with no command waiting, a step is one millisecond, and no command joins the queue. In
POWER_CLEAR nothing runs; from STRAP on the counter of R140 does; from UNCONFIGURED on each of the nine input filters takes
one sample of its pin (R167). In RUNNING a tick in which no timer runs out, no close is in flight and no input differs
from its filtered level is the passing of the time alone: every timer is one less, and every beacon one position on, or
loaded afresh at its period (R165). A silence timer that runs out leaves NO_ANSWER in the line's record (R84), and a close in
flight goes on by 16 accounts (R125). -/
def Obligations.AnEmptyQueueIsOneMillisecond : Prop :=
  ∀ s : State, s.pending = [] →
    let sampled := fun (f : Filter) (pin : Bool) =>
      if pin = f.level then { f with run := 0 }
      else if f.run < 7 then { f with run := f.run + 1 } else ({ level := pin, run := 0 } : Filter)
    let shorter := fun timer : Option Nat => timer.map (· - 1)
    let lasts := fun timer : Option Nat => ∀ n, timer = some n → 2 ≤ n
    let quiet := s.part.room.meter.scan = none ∧ lasts s.part.room.meter.timer ∧
      (∀ b, s.part.pins.ack.get b = (s.part.room.floor.ack.get b).level) ∧
      s.part.pins.shift = s.part.room.floor.shift.level ∧
      ∀ l, lasts (s.part.room.line l).silence ∧ lasts (s.part.room.line l).poll ∧ lasts (s.part.room.line l).stall ∧
        lasts (s.part.room.line l).echo ∧ ∀ a, (s.part.room.line l).alert = some a → lasts a.timer ∧
          ∀ n, a.failover = .running n → 2 ≤ n
    ∃ t, step s = .next t ∧ t.pending = [] ∧ t.part.dram = s.part.dram ∧ t.part.pins = s.part.pins ∧
      t.part.settings = s.part.settings ∧ t.part.link.phase = s.part.link.phase ∧
      t.part.link.buffer = s.part.link.buffer ∧ t.part.link.refused = s.part.link.refused ∧
      t.part.room.ms = (if s.part.link.phase = .powerClear then s.part.room.ms else s.part.room.ms + 1) ∧
      (s.part.link.phase = .powerClear → t = s) ∧
      (s.part.link.phase = .strap → t = s.modRoom fun r => { r with ms := r.ms + 1 }) ∧
      (s.part.link.phase = .unconfigured → t = s.modRoom fun r =>
        { r with
          ms := r.ms + 1
          floor := { r.floor with ack := t.part.room.floor.ack, shift := t.part.room.floor.shift } }) ∧
      (s.part.link.phase.answers = true →
        t.part.room.floor.shift = sampled s.part.room.floor.shift s.part.pins.shift ∧
        ∀ b, t.part.room.floor.ack.get b = sampled (s.part.room.floor.ack.get b) (s.part.pins.ack.get b)) ∧
      (s.part.link.phase = .running →
        (∀ l n, (s.part.room.line l).silence = some n → n ≤ 1 →
          ∃ a, (t.part.room.line l).alert = some a ∧ a.has .noAnswer = true) ∧
        (∀ pos, s.part.room.meter.scan = some pos → pos + 16 < 512 → t.part.room.meter.scan = some (pos + 16)) ∧
        (quiet →
          t = s.modRoom (fun r =>
            { r with
              ms := r.ms + 1
              lines := t.part.room.lines
              meter := { r.meter with timer := shorter r.meter.timer }
              floor := { r.floor with
                beacons := t.part.room.floor.beacons, ack := t.part.room.floor.ack
                shift := t.part.room.floor.shift } }) ∧
          (∀ l, t.part.room.line l =
            let y := s.part.room.line l
            { y with
              silence := shorter y.silence, poll := shorter y.poll, stall := shorter y.stall, echo := shorter y.echo
              alert := y.alert.map fun a =>
                { a with
                  timer := shorter a.timer
                  failover := match a.failover with
                    | .running n => .running (n - 1)
                    | f => f } }) ∧
          ∀ b, t.part.room.floor.beacons.get b =
            let k := s.part.room.floor.beacons.get b
            let entry := s.part.room.floor.patterns.get k.sel.code
            { k with gen := k.gen.map fun g =>
                if g.pos + 1 < g.period then { g with pos := g.pos + 1 }
                else { running := k.sel, period := entry.period, onTime := entry.onTime, pos := 0 } }))

/-! ## Lifephases (R182 to R185) -/

/-- POWER_ON_RESET gives every register of the part its power-on value (R25, R37, R56, R73, R97, R98, R129, R139, R146,
R161, R162, R170, R185), and leaves the DRAM bytes, which R37 says are not cleared, and the levels that stand on the
floor inputs; the values the spec does not give are the model's choices (log entry 4 for the strap sample and the TAKE
level, log entry 5 for what the DRAM reads as before it is written). RESET_RELEASE in POWER_CLEAR samples the straps and
starts the millisecond counter at 0 (R161; that this row is the end of power-on reset is DEDUCED, log entry 27);
ENTER_UNCONFIGURED in STRAP presets the input filters to high, and the DEVICE key of the power-on reset then drives
HATTN; the straps select N (R25, R182, R185). -/
def Obligations.PowerOnAndStraps : Prop :=
  (∀ s : State, ∃ t, exec .powerOnReset s = .next t ∧ t.pending = s.pending ∧ t.part.dram = s.part.dram ∧
     t.part.pins = s.part.pins ∧
     t.part.link = { phase := .powerClear, buffer := [], replies := [], inHand := none, refused := false } ∧
     t.part.room.attn = [{ src := .device, marks := [.restarted .powerOn] }] ∧
     (∀ j, t.part.room.job j = none) ∧ t.part.room.freeEntries = 16384 ∧
     t.part.room.store = { strap := 0, used := [], low := false } ∧
     (∀ target, t.part.room.queue target = []) ∧ (∀ b, t.part.room.stallTimeout.get b = 0) ∧
     (∀ a, t.part.room.account a = none ∧ t.part.room.snapshot a = none) ∧
     (∀ l, t.part.room.line l =
       { state := .disabled, mode := .off, bay := none
         fmt := { parity := .none, twoStops := false, p := 0, k := 8 }
         proto := { depth := 4, silence := 5000, poll := 1000 }
         count := { source := .exit, offset := 0, tolerance := 2, baseline := 0, tally := 0, last := 0, latch := none }
         errs := { parity := false, framing := false, brk := false, overrun := false }
         rx := { cond := .stopped, filter := { level := true, run := 0 }, asm := .hunting, queue := [], path := [] }
         tx := { due := [], held := [], pollDue := false, sending := [], hold := none, shift := none, gapOwed := false
                 take := false }
         att := none, window := [], job := none, turn := 0, started := false, endSent := false, page := none
         alert := none, silence := none, poll := none, stall := none, echo := none }) ∧
     (∀ i, t.part.room.meter.rates.get i = { base := 0, ksur := 0 }) ∧ t.part.room.meter.epoch = 0 ∧
     t.part.room.meter.scan = none ∧ t.part.room.meter.closeMode = .manual ∧ t.part.room.meter.edge = .none ∧
     t.part.room.meter.interval = 60 ∧ t.part.room.meter.timer = none ∧
     (∀ kind : CondKind, t.part.room.profiles.get kind.rank =
       match kind with
       | .linkDown | .noAnswer => { t12 := 30, t23 := 120, failover := 0 }
       | .jam => { t12 := 60, t23 := 300, failover := 0 }
       | .coverOpen => { t12 := 120, t23 := 600, failover := 0 }
       | .mediaOut => { t12 := 300, t23 := 900, failover := 0 }) ∧
     t.part.room.ms = 0 ∧
     (∀ p : Pattern, t.part.room.floor.patterns.get p.code =
       match p with
       | .off => { period := 1000, onTime := 0 }
       | .steady => { period := 1000, onTime := 1000 }
       | .slow => { period := 1000, onTime := 500 }
       | .fast => { period := 250, onTime := 125 }
       | .dim => { period := 20, onTime := 5 }
       | .acked => { period := 2000, onTime := 1800 }) ∧
     (∀ v : Level, t.part.room.floor.levelMap.get v.index =
       match v with
       | .one => .slow
       | .two => .fast
       | .three => .steady) ∧
     (∀ b, t.part.room.floor.beacons.get b = { sel := .off, gen := none } ∧
       t.part.room.floor.ack.get b = { level := true, run := 0 }) ∧
     t.part.room.floor.shift = { level := true, run := 0 } ∧ t.part.room.floor.bell = false) ∧
  (∀ (s : State) (strap : BitVec 2), s.part.link.phase = .powerClear →
    exec (.resetRelease strap) s = .next { s with part := { s.part with
      link := { s.part.link with phase := .strap }
      room := { s.part.room with store := { s.part.room.store with strap := strap }, ms := 0 } } }) ∧
  (∀ s : State, s.part.link.phase = .strap →
    ∃ t, exec .enterUnconfigured s = .next t ∧
      t.part.link = { s.part.link with phase := .unconfigured } ∧
      (∀ b, t.part.room.floor.ack.get b = { level := true, run := 0 }) ∧
      t.part.room.floor.shift = { level := true, run := 0 } ∧
      t = { s with part := { s.part with
        link := t.part.link
        room := { s.part.room with
          floor := { s.part.room.floor with ack := t.part.room.floor.ack, shift := t.part.room.floor.shift } } } } ∧
      (s.part.room.attn ≠ [] → t.part.hattn = true)) ∧
  (∀ store : Store, store.blocks = (match store.strap with
    | 0#2 => 8192
    | 1#2 => 16384
    | 2#2 => 32768
    | 3#2 => 65536))

/-- START in UNCONFIGURED: every line enters the state of its mode setting, every beacon generator runs OFF from position
0, the interval timer runs under INTERVAL, and nothing else changes, the request in hand and the REFUSED marker
included; the reply's summary byte shows RUNNING. -/
def Obligations.StartTakesUpRunning : Prop :=
  ∀ (s : State) (tag : Byte) (rest : List ReqFrame), Taken s .start tag [] rest → s.part.link.sound →
    ∃ t reply, exec .start s = .next t ∧
      t.part.link = { s.part.link with
        phase := .running, buffer := rest, replies := s.part.link.replies ++ [reply] } ∧ reply.tag = tag ∧ reply.kind = 0x82#8 ∧
      reply.status = .ok ∧ reply.results = .none ∧ reply.summary.getLsbD 3 = true ∧
      (∀ l, t.part.room.line l =
        let y := s.part.room.line l
        match y.mode with
        | .off => y
        | .on => { y with state := .detached, rx := Receiver.fresh, tx := y.tx.cutShort, echo := none }
        | .loopback => { y with state := .loopback, rx := Receiver.fresh, tx := y.tx.cutShort, echo := none }) ∧
      (∀ b, t.part.room.floor.beacons.get b =
        { sel := (s.part.room.floor.beacons.get b).sel
          gen := some { running := .off, period := (s.part.room.floor.patterns.get 0).period
                        onTime := (s.part.room.floor.patterns.get 0).onTime, pos := 0 } }) ∧
      t.part.room.meter.timer =
        (if s.part.room.meter.closeMode = .interval then some (60000 * s.part.room.meter.interval) else none) ∧
      t = { s with part := { s.part with
        link := t.part.link
        room := { s.part.room with
          lines := t.part.room.lines
          meter := { s.part.room.meter with timer := t.part.room.meter.timer }
          floor := { s.part.room.floor with beacons := t.part.room.floor.beacons } } } }

/-- RESTART: spooling and alerts are cleared, configuration is kept, and metering is kept but for what is held and
referenced; a close in flight is completed, each unmoved account being moved and each old snapshot of an ABSENT account
emptied (R129). R170: every selection is OFF, and every running generator loads OFF at once at position 0; the tables and
the filters are kept. The reply's summary byte shows the state after the restart. -/
def Obligations.RestartClearsSpoolingAndAlerts : Prop :=
  ∀ (s : State) (tag : Byte) (rest : List ReqFrame), Taken s .restart tag [] rest →
    let epoch := s.part.room.meter.epoch
    let crosses := fun (x : Account) (consumed : Nat) =>
      decide (x.mode ≠ .unlimited) && decide (x.limit - consumed < x.limit * x.watermark / 100)
    ∃ t, exec .restart s = .next t ∧ t = s.answered .restart tag rest t.part.room .ok .none ∧
      t.part.settings = s.part.settings ∧ t.part.room.ms = s.part.room.ms ∧
      t.part.room.meter = { s.part.room.meter with scan := none } ∧
      (∀ j, t.part.room.job j = none) ∧ t.part.room.freeEntries = 16384 ∧
      t.part.room.store = { s.part.room.store with used := [], low := false } ∧
      (∀ target, t.part.room.queue target = []) ∧
      (∀ l, let y := s.part.room.line l
        let z := t.part.room.line l
        z.state = (if y.state = .disabled ∨ y.state = .loopback then y.state else .detached) ∧ z.att = none ∧
          z.window = [] ∧ z.job = none ∧ z.alert = none ∧ z.page = none ∧ z.errs = Errors.clear ∧
          z.count = { y.count with baseline := 0, tally := 0, last := 0, latch := none } ∧
          z.silence = none ∧ z.poll = none ∧ z.stall = none ∧ z.echo = none ∧ z.tx.due = [] ∧ z.tx.held = [] ∧
          z.tx.hold = none ∧ z.tx.sending = [] ∧ z.tx.shift = none ∧ z.rx.queue = []) ∧
      (∀ a x, s.part.room.account a = some x → s.part.room.meter.scan = none ∨ x.epoch = epoch →
        t.part.room.snapshot a = s.part.room.snapshot a ∧
        t.part.room.account a = some { x with held := 0, refs := 0, crossed := crosses x x.consumed }) ∧
      (∀ a x, s.part.room.account a = some x → s.part.room.meter.scan ≠ none → x.epoch ≠ epoch →
        t.part.room.snapshot a = some { epoch := x.epoch, consumed := x.consumed, mono := x.mono, colour := x.colour,
                                        sheets := x.sheets, saturated := x.saturated } ∧
        t.part.room.account a = some
          { x with held := 0, refs := 0, consumed := 0, mono := 0, colour := 0, sheets := 0, saturated := false,
                   epoch := epoch, crossed := crosses x 0 }) ∧
      (∀ a, s.part.room.account a = none → t.part.room.account a = none ∧
        t.part.room.snapshot a = if s.part.room.meter.scan = none then s.part.room.snapshot a
          else (s.part.room.snapshot a).filter fun n => n.epoch = epoch - 1) ∧
      (s.part.room.meter.scan ≠ none → t.part.room.marked .device (.closeDone epoch)) ∧
      t.part.room.marked .device (.restarted .restart) ∧
      (∀ k ∈ t.part.room.attn, ∀ l j, k.src ≠ .line l ∧ k.src ≠ .job j) ∧
      t.part.room.floor = { s.part.room.floor with beacons := t.part.room.floor.beacons, bell := false } ∧
      ∀ b, t.part.room.floor.beacons.get b =
        { sel := .off
          gen := (s.part.room.floor.beacons.get b).gen.map fun _ =>
            { running := .off, period := (s.part.room.floor.patterns.get 0).period
              onTime := (s.part.room.floor.patterns.get 0).onTime, pos := 0 } }

/-! ## Frames and requests on the host link (R171 to R181) -/

/-- A frame built as R172 lays it down is taken in whole, whatever stands before its sync byte or after its check, and
joins the request buffer as it was sent; with the buffer full it is discarded and the REFUSED marker set. R171 to
R175: a frame whose check differs from the CRC arrives with BAD_CHECK, one whose declared length exceeds 2,048 with
TOO_LONG at its second length byte; bytes without C3h, a partial frame, and any byte in POWER_CLEAR or STRAP set
nothing; a head frame with a bad verdict is answered with it, the received kind plus 80h and the received tag; a reply
leaves from the head of the queue once shifted out. R171: in a transfer HSO carries the frame of the reply at the head
of the queue from its sync byte on, and 00h after its last check byte; that reply, and no other, leaves the queue when
the whole frame is out; with an empty queue, or in a lifephase in which the link does not answer, it carries 00h
throughout. The layout of result bytes is not in the spec and is a parameter here (log entry 6). -/
def Obligations.RequestFramesArriveAndAreAnswered : Prop :=
  (∀ (s : State) (junk trailing payload : List Byte) (kind tag : Byte), s.part.link.phase.answers = true →
     (∀ b ∈ junk, b ≠ 0xC3#8) → payload.length ≤ 2048 →
     exec (.requestArrival (junk ++ Wire.frame kind tag payload ++ trailing)) s =
       .next { s with part := { s.part with link :=
         if s.part.link.buffer.length < 4 then
           { s.part.link with buffer := s.part.link.buffer ++
             [{ kind := kind, tag := tag, payload := payload,
                verdict := if listedKind kind then .good else .unknownKind }] }
         else { s.part.link with refused := true } } }) ∧
  ((∀ (s : State) (junk trailing payload : List Byte) (kind tag : Byte) (check : Nat),
     s.part.link.phase.answers = true → (∀ b ∈ junk, b ≠ 0xC3#8) → payload.length ≤ 2048 → check < 65536 →
     check ≠ (Wire.crc16 (kind :: tag :: (Wire.field 2 payload.length ++ payload))).toNat →
     s.part.link.buffer.length < 4 →
     exec (.requestArrival (junk ++ 0xC3#8 :: kind :: tag :: (Wire.field 2 payload.length ++ payload ++
         Wire.field 2 check) ++ trailing)) s =
       .next { s with part := { s.part with link := { s.part.link with buffer := s.part.link.buffer ++
         [{ kind := kind, tag := tag, payload := payload, verdict := .badCheck }] } } }) ∧
   (∀ (s : State) (junk trailing : List Byte) (kind tag : Byte) (length : Nat),
     s.part.link.phase.answers = true → (∀ b ∈ junk, b ≠ 0xC3#8) → 2048 < length → length < 65536 →
     s.part.link.buffer.length < 4 →
     exec (.requestArrival (junk ++ 0xC3#8 :: kind :: tag :: Wire.field 2 length ++ trailing)) s =
       .next { s with part := { s.part with link := { s.part.link with buffer := s.part.link.buffer ++
         [{ kind := kind, tag := tag, payload := [], verdict := .tooLong }] } } }) ∧
   (∀ (s : State) (hsi : List Byte), (∀ b ∈ hsi, b ≠ 0xC3#8) → exec (.requestArrival hsi) s = .next s) ∧
   (∀ (s : State) (hsi : List Byte), s.part.link.phase.answers = false → exec (.requestArrival hsi) s = .next s) ∧
   (∀ s : State, exec .partialFrameDiscarded s = .next s) ∧
   (∀ (s : State) (a : Reply) (more : List Reply), s.part.link.replies = a :: more →
     exec .replyShiftedOut s =
       .next { s with part := { s.part with link := { s.part.link with replies := more } } }) ∧
   (∀ (s : State) (f : ReqFrame) (rest : List ReqFrame) (status : Status), s.part.link.phase.answers = true →
     s.part.link.replies.length < 4 → s.part.link.inHand = none → s.part.link.buffer = f :: rest →
     (f.verdict = .tooLong ∧ status = .tooLong ∨ f.verdict = .badCheck ∧ status = .badCheck ∨
       f.verdict = .unknownKind ∧ status = .unknownKind) →
     ∃ t, exec .badVerdictReply s = .next t ∧ t.part.room = s.part.room ∧ t.part.dram = s.part.dram ∧
       t.pending = s.pending ∧
       t.part.link = { s.part.link with
         buffer := rest
         replies := s.part.link.replies ++ [{ kind := f.kind + 0x80#8, tag := f.tag, status := status,
                                              summary := t.part.summary, results := .none }] })) ∧
  ((∀ (layout : Results → List Byte) (k : Link) (a : Reply) (more : List Reply) (n : Nat), k.phase.answers = true →
     k.replies = a :: more →
     let frame := Wire.frame a.kind a.tag (BitVec.ofNat 8 a.status.code :: a.summary :: layout a.results)
     (k.hso layout n).length = n ∧ (n ≤ frame.length → k.hso layout n = frame.take n) ∧
       (frame.length ≤ n → k.hso layout n = frame ++ List.replicate (n - frame.length) 0#8) ∧
       k.transferOut layout n = (if frame.length ≤ n then { k with replies := more } else k)) ∧
   (∀ (layout : Results → List Byte) (k : Link) (n : Nat), k.phase.answers = false ∨ k.replies = [] →
     k.hso layout n = List.replicate n 0#8 ∧ k.transferOut layout n = k))

/-- R174: in UNCONFIGURED the named requests are refused with NOT_RUNNING, in RUNNING START with BAD_STATE, and a payload
whose length fits no layout of its kind with BAD_ARG; nothing else changes. The model's choice (log entry 1): the row
of a request changes nothing while the reply queue is full, a request is in hand, the link does not answer, or another
frame stands at the head. -/
def Obligations.RequestsAreSettledBeforeTheirOwner : Prop :=
  (∀ (s : State) (k : ReqKind) (take : Bool) (tag : Byte) (payload : List Byte) (rest : List ReqFrame),
     Asked s k tag payload rest →
     (s.part.link.phase = .unconfigured →
       k ∈ [ReqKind.restart, .lineTest, .alertAck, .closePeriod, .jobOpen, .pageBegin, .pageData, .pageEnd, .jobClose,
         .jobHold, .jobRelease, .jobCancel, .jobReap] →
       exec (k.command take) s = .next (s.declined k tag rest .notRunning .none)) ∧
     (s.part.link.phase = .running → k = .start →
       exec (k.command take) s = .next (s.declined k tag rest .badState .none))) ∧
  (∀ (s : State) (k : ReqKind) (take : Bool) (tag : Byte) (payload : List Byte) (rest : List ReqFrame),
     Taken s k tag payload rest → k.fits payload = false →
     exec (k.command take) s = .next (s.declined k tag rest .badArg .none)) ∧
  (∀ (s : State) (k : ReqKind) (take : Bool),
     (4 ≤ s.part.link.replies.length ∨ s.part.link.inHand ≠ none ∨ s.part.link.phase.answers = false ∨
       (∀ f rest, s.part.link.buffer = f :: rest → f.verdict ≠ .good ∨ f.kind ≠ k.code)) →
     exec (k.command take) s = .next s)

/-- IDENTIFY and QUEUE-PEEK report the device and change nothing (R178). LINK-STATUS shows the REFUSED marker as it stood
and then clears it; a later frame discarded for a full buffer sets it again (R177). NEXT-NOTICE: R180: the head key
leaves the list with all its marks, which stand in the order of the table of section 11.5, and is reported with its
kind code, its number, and a snapshot of its source; no source changes. The model's choice (log entry 29): the TAKE
level that the command brings for the line it reports is kept as that line's TAKE level. -/
def Obligations.DeviceRequestsAndNotices : Prop :=
  ((∀ (s : State) (tag : Byte) (rest : List ReqFrame), Taken s .identify tag [] rest →
     exec .identify s = .next (s.declined .identify tag rest .ok
       (.identify 0x2408#16 1 s.part.room.store.strap (8192 * 2 ^ s.part.room.store.strap.toNat) s.part.link.phase
         s.part.room.ms))) ∧
   (∀ (s : State) (tag : Byte) (rest : List ReqFrame), Taken s .queuePeek tag [] rest →
     exec .queuePeek s = .next (s.declined .queuePeek tag rest .ok
       (.queuePeek ((List.finRange 8).map fun b => (s.part.room.queue (.bay b)).length)
         ((List.finRange 24).map fun l => (s.part.room.queue (.line l)).length)
         (8192 * 2 ^ s.part.room.store.strap.toNat - s.part.room.store.used.length) s.part.room.store.low
         s.part.room.freeEntries s.part.room.attn.length))) ∧
   (∀ (s : State) (tag : Byte) (rest : List ReqFrame), Taken s .linkStatus tag [] rest →
      ∃ t, exec .linkStatus s = .next t ∧
        t = (s.declined .linkStatus tag rest .ok (.linkStatus s.part.link.refused rest.length
          s.part.link.replies.length s.part.link.phase)).modLink (fun k => { k with refused := false }) ∧
        ∀ (hsi : List Byte) (u : State), u.part.link.phase.answers = true → (Wire.arrival hsi).isSome = true →
          4 ≤ u.part.link.buffer.length →
          exec (.requestArrival hsi) u = .next (u.modLink fun k => { k with refused := true }))) ∧
  (∀ (s : State) (take : Bool) (tag : Byte) (rest : List ReqFrame), Taken s .nextNotice tag [] rest →
     (s.part.room.attn = [] → exec (.nextNotice take) s = .next (s.declined .nextNotice tag rest .ok .noNotice)) ∧
     (∀ (k : Key) (keys : List Key), s.part.room.attn = k :: keys →
       ∃ room code number snap, exec (.nextNotice take) s =
           .next (s.answered .nextNotice tag rest room .ok (.notice code number k.marks snap)) ∧
         room.attn = keys ∧
         match k.src with
         | .device => code = 1 ∧ number = none ∧ room = { s.part.room with attn := keys } ∧
           snap = .device
             { phase := s.part.link.phase, blocks := s.part.room.store.blocks
               freeCount := s.part.room.store.blocks - s.part.room.store.used.length
               low := s.part.room.store.low, freeEntries := s.part.room.freeEntries
               epoch := s.part.room.meter.epoch, scan := s.part.room.meter.scan
               closeMode := s.part.room.meter.closeMode, edge := s.part.room.meter.edge
               interval := s.part.room.meter.interval, ms := s.part.room.ms }
         | .line l => code = 2 ∧ number = some l.val ∧
           room = { s.part.room with attn := keys }.setLine l
             { s.part.room.line l with tx := { (s.part.room.line l).tx with take := take } } ∧
           snap = .line { s.part.room.lineReport l with take := take } (s.part.room.alertReport l)
         | .job j => code = 3 ∧ number = some j.val ∧ room = { s.part.room with attn := keys } ∧
           snap = .job j ((s.part.room.job j).map fun x => s.part.room.jobReport j x)
         | .account a => code = 4 ∧ number = some a.val ∧ room = { s.part.room with attn := keys } ∧
           snap = .account ((s.part.room.account a).map fun x =>
             { account := a, fields := x, available := x.limit - (x.consumed + x.held),
               level := x.limit * x.watermark / 100 })))

/-- A payload written field by field, most significant byte first, gives its operands back: every layout of several
fields, SET-LINE with its groups, JOB-OPEN with its flags, PAGE-BEGIN with and without a back coverage, ACCOUNT-SET. -/
def Obligations.PayloadsGiveTheirOperandsBack : Prop :=
  (∀ layout : List (Nat × Nat), (∀ w ∈ layout, w.2 < 256 ^ w.1) →
    fields (layout.map Prod.fst) (layout.flatMap fun w => Wire.field w.1 w.2) = some (layout.map Prod.snd)) ∧
  (∀ a : SetLineArgs, a.fitsFields → parseSetLine a.payload = some a) ∧
  (∀ a : JobOpenArgs, a.fitsFields → parseJobOpen a.payload = some a) ∧
  (∀ a : PageBeginArgs, a.fitsFields → parsePageBegin a.payload = some a) ∧
  (∀ a : AccountSetArgs, a.fitsFields → parseAccountSet a.payload = some a)

/-! ## Lines and floor settings -/

/-- SET-LINE (R60, with R58, R59, R83 and R131): the checks in their order, the groups written with their clamps, a
character in reception discarded where the character or the rate group is written (R58), the mode setting recorded,
and in RUNNING the mode applied. DEDUCED, log entry 32: an unknown count source code differs from every present
setting, so that on a line which may not change its source it is refused with BAD_STATE, before BAD_ARG. -/
def Obligations.SetLineWritesItsGroups : Prop :=
  ∀ (s : State) (tag : Byte) (rest : List ReqFrame) (a : SetLineArgs), a.fitsFields →
    Taken s .setLine tag a.payload rest →
    (24 ≤ a.line → exec .setLine s = .next (s.declined .setLine tag rest .badArg .none)) ∧
    ∀ l : LineId, l.val = a.line →
      let y := s.part.room.line l
      let still := y.state = .disabled ∨ y.state = .detached
      let badState := ¬still ∧ (a.character.isSome = true ∨ a.rate.isSome = true) ∨
        a.enable = true ∧ a.loopback = true ∧ ¬(still ∨ y.state = .loopback) ∨
        ∃ c, a.counting = some c ∧ c.1 ≠ y.count.source.code ∧ ¬(still ∨ y.state = .idle)
      let badArg := (∃ c, a.character = some c ∧ (3 < c.1 ∨ c.2 ≠ 1 ∧ c.2 ≠ 2)) ∨
        ∃ c, a.counting = some c ∧ 1 < c.1
      (badState → exec .setLine s = .next (s.declined .setLine tag rest .badState .none)) ∧
      (¬badState → badArg → exec .setLine s = .next (s.declined .setLine tag rest .badArg .none)) ∧
      (¬badState → ¬badArg → ∃ z : Line, ∃ room status,
        exec .setLine s = .next (s.answered .setLine tag rest room status
          (.line (room.line l).state z.fmt z.proto z.count.source z.count.offset z.count.tolerance z.mode)) ∧
        z = { y with fmt := z.fmt, proto := z.proto, count := z.count, mode := z.mode, rx := z.rx } ∧
        z.rx = (if a.character.isSome = true ∨ a.rate.isSome = true then
          match y.rx.cond with
          | .sampling _ _ => { y.rx with cond := .hunting }
          | .stopped | .hunting | .waitMark => y.rx
        else y.rx) ∧
        (a.character = none → z.fmt.parity = y.fmt.parity ∧ z.fmt.twoStops = y.fmt.twoStops) ∧
        (∀ parity stops, a.character = some (parity, stops) →
          z.fmt.parity = (match parity with
            | 0 => Parity.none
            | 1 => .odd
            | 2 => .even
            | _ => .zero) ∧ z.fmt.twoStops = decide (stops = 2)) ∧
        (a.rate = none → z.fmt.p = y.fmt.p ∧ z.fmt.k = y.fmt.k) ∧
        (∀ p k, a.rate = some (p, k) → z.fmt.p = min 7 p ∧ z.fmt.k = min 239 k) ∧
        (a.protocol = none → z.proto = y.proto) ∧
        (∀ depth silence poll, a.protocol = some (depth, silence, poll) →
          z.proto.depth = max 1 (min 8 depth) ∧ z.proto.silence = max 100 (min 60000 silence) ∧
          z.proto.poll = (if max 100 (min 60000 silence) ≤ max 50 (min 10000 poll) then
            max 100 (min 60000 silence) / 2 else max 50 (min 10000 poll))) ∧
        (a.counting = none → z.count = y.count) ∧
        (∀ source offset tolerance, a.counting = some (source, offset, tolerance) →
          z.count = { y.count with
            source := if source = 0 then .exit else .sent
            offset := BitVec.ofNat 32 offset
            tolerance := min 255 tolerance }) ∧
        z.mode = (if a.enable then (if a.loopback then .loopback else .on) else .off) ∧
        (status = .clamped ↔ (∃ p k, a.rate = some (p, k) ∧ (7 < p ∨ 239 < k)) ∨
          (∃ depth silence poll, a.protocol = some (depth, silence, poll) ∧
            (z.proto.depth ≠ depth ∨ z.proto.silence ≠ silence ∨ z.proto.poll ≠ poll)) ∨
          ∃ source offset tolerance, a.counting = some (source, offset, tolerance) ∧ 255 < tolerance) ∧
        (status = .clamped ∨ status = .ok) ∧
        (s.part.link.phase ≠ .running → room = s.part.room.setLine l z) ∧
        (s.part.link.phase = .running → room =
          match z.mode, y.state with
          | .off, .disabled => s.part.room.setLine l z
          | .off, _ => (s.part.room.setLine l z).disableLine l
          | .on, .disabled | .on, .loopback =>
            s.part.room.setLine l
              { z with state := .detached, rx := Receiver.fresh, tx := z.tx.cutShort, echo := none }
          | .loopback, .disabled | .loopback, .detached =>
            s.part.room.setLine l
              { z with state := .loopback, rx := Receiver.fresh, tx := z.tx.cutShort, echo := none }
          | _, _ => s.part.room.setLine l z))

/-- SET-LINE that disables a line in RUNNING (R96), with sound bindings: frames, window, record, attachment and timers go,
the bound job is unbound, and the settings stay. -/
def Obligations.LineDisableTearsDown : Prop :=
  ∀ (s : State) (tag : Byte) (rest : List ReqFrame) (a : SetLineArgs) (l : LineId), a.fitsFields →
    Taken s .setLine tag a.payload rest → s.part.link.phase = .running → a.line = l.val → a.enable = false →
    a.character = none → a.rate = none → a.protocol = none → a.counting = none →
    (s.part.room.line l).state ≠ .disabled → s.part.room.bindingsSound →
    ∃ t, exec .setLine s = .next t ∧ t.part.dram = s.part.dram ∧
      (let y := s.part.room.line l
       let z := t.part.room.line l
       z.state = .disabled ∧ z.mode = .off ∧ z.bay = y.bay ∧ z.fmt = y.fmt ∧ z.proto = y.proto ∧ z.count = y.count ∧
         z.errs = y.errs ∧ z.att = none ∧ z.window = [] ∧ z.job = none ∧ z.alert = none ∧ z.page = none ∧
         z.silence = none ∧ z.poll = none ∧ z.stall = none ∧ z.tx.due = [] ∧ z.tx.hold = none ∧ z.tx.shift = none ∧
         z.rx.queue = [] ∧ z.rx.cond = .stopped) ∧
      ((s.part.room.line l).state.attached = true → t.part.room.marked (.line l) .detached) ∧
      (∀ r, (s.part.room.line l).alert = some r →
        t.part.room.marked (.line l) (.alertClosed (s.part.room.ms - r.opened) .disabled)) ∧
      (∀ j x, (s.part.room.line l).job = some j → s.part.room.job j = some x → x.state ≠ .aborted →
        ∃ x', t.part.room.job j = some x' ∧ x'.state = .held ∧ x'.holdReason = some .lineLost ∧
          x'.bound = none ∧ x'.holdPending = false) ∧
      (∀ j x, (s.part.room.line l).job = some j → s.part.room.job j = some x → x.state = .aborted →
        t.part.room.marked (.job j) (.aborted x.confirmed) ∧
        ∃ x', t.part.room.job j = some x' ∧ x'.state = .aborted ∧ x'.bound = none)

/-- LINE-QUERY (R69): the report is built first, and the clear flag then clears the four marks and the latch. The model's
choice (log entry 29): the TAKE level comes with the command, and is kept as the line's TAKE level in every line
state. R70 and R71. LINE-TEST is checked, then empties the queue and sends its TEST frame with the request in hand;
the frame's last character starts the echo wait of 100 ms; a good TEST frame decides the request in hand, as a match
or with the length received and the offset of the first difference, and is discarded with none waiting; the end of the
wait decides NO_ECHO. -/
def Obligations.LineQueriesAndTests : Prop :=
  (∀ (s : State) (take : Bool) (tag : Byte) (rest : List ReqFrame) (line clear : Nat), line < 256 → clear < 256 →
     Taken s .lineQuery tag (Wire.field 1 line ++ Wire.field 1 clear) rest →
     (24 ≤ line → exec (.lineQuery take) s = .next (s.declined .lineQuery tag rest .badArg .none)) ∧
     ∀ l : LineId, l.val = line →
       let y := s.part.room.line l
       let seen : Line := { y with tx := { y.tx with take := take } }
       exec (.lineQuery take) s = .next (s.answered .lineQuery tag rest
         (s.part.room.setLine l (if clear = 0 then seen else
           { seen with errs := Errors.clear, count := { y.count with latch := none } })) .ok
         (.lineQuery { line := l, state := y.state, mode := y.mode, bay := y.bay, fmt := y.fmt, errs := y.errs,
                       queued := y.rx.queue.length, take := take,
                       give := y.state.live && decide (y.rx.queue.length < 4), att := y.att, window := y.window,
                       count := y.count }))) ∧
  ((∀ (s : State) (tag : Byte) (rest : List ReqFrame) (line : Nat) (pattern : List Byte), line < 256 →
     Taken s .lineTest tag (Wire.field 1 line ++ pattern) rest →
     (24 ≤ line → exec .lineTest s = .next (s.declined .lineTest tag rest .badArg .none)) ∧
     ∀ l : LineId, l.val = line →
       let y := s.part.room.line l
       (y.state ≠ .loopback → exec .lineTest s = .next (s.declined .lineTest tag rest .badState .none)) ∧
       (y.state = .loopback → pattern.length = 0 ∨ 256 < pattern.length →
         exec .lineTest s = .next (s.declined .lineTest tag rest .badArg .none)) ∧
       (y.state = .loopback → 1 ≤ pattern.length → pattern.length ≤ 256 → y.tx.hold = none → y.tx.sending = [] →
         y.tx.due = [] → y.tx.pollDue = false →
         exec .lineTest s = .next { s with part := { s.part with
           link := { s.part.link with
             buffer := rest, inHand := some { tag := tag, line := l, pattern := pattern } }
           room := s.part.room.setLine l { y with
             rx := { y.rx with queue := [] }
             echo := none
             tx := { y.tx with
               hold := some { value := 0x18#8, marker := true, role := .plain }
               sending := (pattern.map fun b => { value := b, marker := false, role := .plain }) ++
                 [{ value := Wire.crc8 0x18#8 pattern, marker := true, role := .ends .test }] } } } })) ∧
   (∀ (s : State) (l : LineId) (c : TxChar) (test : TestInHand), (s.part.room.line l).tx.shift = some c →
     c.role = .ends .test → (s.part.room.line l).tx.hold = none → s.part.link.inHand = some test → test.line = l →
     exec (.testSent l) s = .next (s.modRoom fun r => r.setLine l
       { r.line l with echo := some 100, tx := { (r.line l).tx with shift := none } })) ∧
   (∀ (s : State) (l : LineId) (body : List Byte) (more : List InFrame) (test : TestInHand),
     (s.part.room.line l).rx.queue = .test body :: more → s.part.link.inHand = some test → test.line = l →
     ∃ t outcome, exec (.testFrameTaken l) s = .next t ∧
       t.part.room = s.part.room.setLine l { s.part.room.line l with
         echo := none, rx := { (s.part.room.line l).rx with queue := more } } ∧
       t.part.dram = s.part.dram ∧ t.pending = s.pending ∧
       t.part.link = { s.part.link with
         inHand := none
         replies := s.part.link.replies ++ [{ kind := 0x92#8, tag := test.tag, status := .ok,
                                              summary := t.part.summary, results := .test outcome }] } ∧
       (body = test.pattern → outcome = .matched) ∧
       (body ≠ test.pattern → ∃ offset, outcome = .mismatch body.length offset ∧
         body.take offset = test.pattern.take offset ∧ offset ≤ body.length ∧ offset ≤ test.pattern.length ∧
         (offset < body.length → offset < test.pattern.length → body[offset]? ≠ test.pattern[offset]?))) ∧
   (∀ (s : State) (l : LineId) (f : InFrame) (body : List Byte) (more : List InFrame), f = .test body →
     (s.part.room.line l).rx.queue = f :: more → (∀ test, s.part.link.inHand = some test → test.line ≠ l) →
     exec (.testFrameTaken l) s = .next (s.modRoom fun r => r.setLine l
       { r.line l with rx := { (r.line l).rx with queue := more } })) ∧
   (∀ (s : State) (l : LineId) (test : TestInHand), (s.part.room.line l).echo ≠ none →
     s.part.link.inHand = some test → test.line = l →
     ∃ t, exec (.echoWaitExpiry l) s = .next t ∧
       t.part.room = s.part.room.setLine l { s.part.room.line l with echo := none } ∧
       t.part.dram = s.part.dram ∧ t.pending = s.pending ∧
       t.part.link = { s.part.link with
         inHand := none
         replies := s.part.link.replies ++ [{ kind := 0x92#8, tag := test.tag, status := .ok,
                                              summary := t.part.summary, results := .test .noEcho }] }))

/-- R70, R63 and R68, the engine of a LOOPBACK line: whatever the TAKE pin, a character starts while the inbound queue has room,
and goes onto the internal path, where it is received; TX stays at mark. A full queue holds the next character back, and so
do two characters still under way (log entry 22). The assembler takes the path's characters in order, a whole TEST frame
joins the queue, any other frame is discarded, and no error mark is ever set. The receiver's input is the level of the
line's own transmitter in place of the RX pin, and each sample of it passes the eight-sample filter, as on a live line; a
DISABLED line does not sample. -/
def Obligations.LoopbackRunsOnItsInternalPath : Prop :=
  (∀ (s : State) (l : LineId) (take : Bool) (c next : TxChar) (more : List TxChar),
    (s.part.room.line l).state = .loopback → (s.part.room.line l).tx.hold = some c →
    (s.part.room.line l).tx.sending = next :: more →
    (∀ d, (s.part.room.line l).tx.shift = some d → d.role = .plain ∨ d.role = .pollBegin) →
    let y := s.part.room.line l
    (y.rx.queue.length < 4 → y.rx.path.length ≤ 1 →
      exec (.characterStart l take) s = .next (s.modRoom fun r => r.setLine l { y with
        poll := y.poll.map fun _ => y.proto.poll
        rx := { y.rx with path := y.rx.path ++ [{ value := c.value, marker := c.marker }] }
        tx := { y.tx with
          hold := some next, sending := more, shift := some c, gapOwed := false,
          pollDue := y.tx.pollDue && c.role ≠ .pollBegin } })) ∧
    (4 ≤ y.rx.queue.length ∨ 2 ≤ y.rx.path.length → exec (.characterStart l take) s = .next s)) ∧
  (∀ (s : State) (l : LineId) (value : Byte) (marker parity stop : Bool) (c : PathChar) (path : List PathChar),
    (s.part.room.line l).state = .loopback → (s.part.room.line l).rx.cond.receives = true →
    (s.part.room.line l).rx.path = c :: path →
    let y := s.part.room.line l
    let filter := if y.rx.filter.level then y.rx.filter else { level := true, run := 0 }
    let heard := fun (asm : Assembler) (queue : List InFrame) =>
      exec (.characterReceived l value marker parity stop) s = .next (s.modRoom fun r => r.setLine l
        { y with rx := { y.rx with
          cond := .hunting, filter := filter, path := path, asm := asm, queue := queue } })
    (y.rx.asm = .hunting → heard (if c.marker then .inFrame c.value [] false else .hunting) y.rx.queue) ∧
    (∀ kind body bad, y.rx.asm = .inFrame kind body bad → c.marker = false →
      heard (if body.length = 260 then .skipping else .inFrame kind (body ++ [c.value]) bad) y.rx.queue) ∧
    (∀ body, y.rx.asm = .inFrame 0x18#8 body false → c.marker = true → c.value = Wire.crc8 0x18#8 body →
      1 ≤ body.length → body.length ≤ 256 →
      heard .hunting (if y.rx.queue.length < 4 then y.rx.queue ++ [.test body] else y.rx.queue)) ∧
    (∀ kind body bad, y.rx.asm = .inFrame kind body bad → c.marker = true →
      kind ≠ 0x18#8 ∨ c.value ≠ Wire.crc8 kind body ∨ body.length = 0 ∨ 256 < body.length → heard .hunting y.rx.queue) ∧
    (y.rx.asm = .skipping → heard (if c.marker then .hunting else .skipping) y.rx.queue)) ∧
  (∀ (p : Part) (l : LineId) (bitTimes : Nat), (p.room.line l).state = .loopback → p.txPin l bitTimes = true) ∧
  (∀ (y : Line) (rx : Bool), (y.state ≠ .loopback → ∀ bitTimes, y.input rx bitTimes = rx) ∧
    (y.state = .loopback → y.tx.shift = none → ∀ bitTimes, y.input rx bitTimes = true) ∧
    ∀ c, y.state = .loopback → y.tx.shift = some c →
      let dataEnd := if y.fmt.parity = .none then 10 else 11
      y.input rx 0 = false ∧ (∀ i, i < 8 → y.input rx (i + 1) = c.value.getLsbD i) ∧ y.input rx 9 = c.marker ∧
        ∀ bitTimes, dataEnd ≤ bitTimes → y.input rx bitTimes = true) ∧
  (∀ (l : LineId) (y : Line) (level : Bool),
    (y.state = .disabled → y.rxTick l level = (y, none)) ∧
    (y.state ≠ .disabled →
      let f := y.rx.filter
      let z := (y.rxTick l level).1
      z = { y with rx := { y.rx with filter := z.rx.filter, cond := z.rx.cond } } ∧
        z.rx.filter = if level = f.level then { f with run := 0 } else if f.run < 7 then { f with run := f.run + 1 }
          else { level := level, run := 0 }))

/-- SET-BAY (R39): a bay above 7, and a changing line in a state that may not move, are refused; otherwise the set and
the stall timeout are written, the selections are made afresh, and the arbiter of R45 then runs for each changing line in
ascending order; it does nothing for a line that is not IDLE. What arbiterLine does is said by
TheArbiterBindsJobsAndLines. -/
def Obligations.SetBayWritesTheMembers : Prop :=
  ∀ (s : State) (tag : Byte) (rest : List ReqFrame) (bay members timeout : Nat), bay < 256 → members < 16777216 →
    timeout < 65536 →
    Taken s .setBay tag (Wire.field 1 bay ++ Wire.field 3 members ++ Wire.field 2 timeout) rest →
    (8 ≤ bay → exec .setBay s = .next (s.declined .setBay tag rest .badArg .none)) ∧
    ∀ b : BayId, b.val = bay →
      let changes := fun l : LineId => members.testBit l.val ≠ decide ((s.part.room.line l).bay = some b)
      let fixed := fun l : LineId => (s.part.room.line l).state ≠ .disabled ∧
        (s.part.room.line l).state ≠ .detached ∧ (s.part.room.line l).state ≠ .idle
      (∀ l, changes l → fixed l → (∀ k, k < l → changes k → ¬fixed k) →
        exec .setBay s = .next (s.declined .setBay tag rest .busy (.busyLine l))) ∧
      ((∀ l, changes l → ¬fixed l) →
        ∃ room, exec .setBay s = .next (s.answered .setBay tag rest room
            (if 3600 < timeout then .clamped else .ok)
            (.bay ((List.finRange 24).filter fun l => members.testBit l.val) (min 3600 timeout))) ∧
          (∀ l, (room.line l).bay =
            if members.testBit l.val then some b
            else if (s.part.room.line l).bay = some b then none else (s.part.room.line l).bay) ∧
          room.stallTimeout = s.part.room.stallTimeout.set b.val (min 3600 timeout) b.isLt ∧
          room.accounts = s.part.room.accounts ∧ room.store = s.part.room.store ∧ room.meter = s.part.room.meter ∧
          room.ms = s.part.room.ms ∧
          (∃ lines : Vector Line 24,
            let moved : Room := { s.part.room with
              lines := lines, stallTimeout := s.part.room.stallTimeout.set b.val (min 3600 timeout) b.isLt }
            (∀ l, moved.line l = { s.part.room.line l with bay := (room.line l).bay }) ∧
            room = ((List.finRange 24).filter fun l => decide (changes l)).foldl Room.arbiterLine moved.refreshFloor) ∧
          ((∀ l, changes l → (s.part.room.line l).state ≠ .idle) →
            room = { s.part.room with
              lines := room.lines
              stallTimeout := s.part.room.stallTimeout.set b.val (min 3600 timeout) b.isLt
              floor := room.floor } ∧
            ∀ l, room.line l = { s.part.room.line l with bay := (room.line l).bay }))

/-- SET-PATTERN (R163): a pattern entry, a level map entry, or a reading of the floor. The model's choice (log entry
39): the report gives no running pattern for a beacon whose generator is stopped. The reading of any floor, field by
field: the six pattern entries, the three level map entries, the selection and the running pattern of each of the
eight beacons, the bell, and the filtered levels of the eight bay buttons and of SHIFT. -/
def Obligations.SetPatternWritesOneItem : Prop :=
  ∀ (s : State) (tag : Byte) (rest : List ReqFrame) (item first second : Nat), item < 256 → first < 65536 →
    second < 65536 →
    Taken s .setPattern tag (Wire.field 1 item ++ Wire.field 2 first ++ Wire.field 2 second) rest →
    (5 < item → item ≠ 0x10 → item ≠ 0x11 → item ≠ 0x12 → item ≠ 0xFF →
      exec .setPattern s = .next (s.declined .setPattern tag rest .badArg .none)) ∧
    (0x10 ≤ item → item ≤ 0x12 → 5 < first →
      exec .setPattern s = .next (s.declined .setPattern tag rest .badArg .none)) ∧
    (item = 0xFF → exec .setPattern s =
      .next (s.declined .setPattern tag rest .ok (.floor s.part.room.floor.report))) ∧
    (∀ i : Fin 6, i.val = item →
      let period := max 2 (min 4000 first)
      let floor := { s.part.room.floor with
        patterns := s.part.room.floor.patterns.set i.val { period := period, onTime := min period second } i.isLt }
      exec .setPattern s = .next (s.answered .setPattern tag rest { s.part.room with floor := floor }
        (if period = first ∧ min period second = second then .ok else .clamped) (.floor floor.report))) ∧
    (∀ (i : Fin 3) (p : Pattern), 0x10 + i.val = item → p.code.val = first →
      let floor := { s.part.room.floor with levelMap := s.part.room.floor.levelMap.set i.val p i.isLt }
      let room := { s.part.room with floor := floor }.refreshFloor
      exec .setPattern s = .next (s.answered .setPattern tag rest room .ok (.floor room.floor.report))) ∧
    (∀ floor : Floor, ∃ rep, rep = floor.report ∧
      (∀ p : Fin 6, rep.patterns.get p = floor.patterns.get p) ∧
      (∀ v : Fin 3, rep.levelMap.get v = floor.levelMap.get v) ∧
      rep.beacons.length = 8 ∧ rep.ack.length = 8 ∧ rep.bell = floor.bell ∧ rep.shift = floor.shift.level ∧
      ∀ b : Fin 8, rep.ack[b.val]? = some (floor.ack.get b).level ∧
        ((floor.beacons.get b).gen = none → rep.beacons[b.val]? = some ((floor.beacons.get b).sel, none)) ∧
        ∀ g, (floor.beacons.get b).gen = some g →
          rep.beacons[b.val]? = some ((floor.beacons.get b).sel, some g.running))

/-! ## Jobs (01_jobs.md, 02_the_spool_store.md, 03_bays_queues_and_dispatch.md) -/

/-- R5: a slot number above 255 is refused with BAD_ARG, and a FREE slot with NOT_FOUND, by every request that names a
slot but JOB-QUERY; no job state changes, and the reply carries the slot. JOB-REAP and JOB-QUERY (R16, R17): a job
that is DONE, or ABORTED and unbound, leaves its slot with its reference and its key; a query reports the record, or
FREE, and changes nothing. DEDUCED, log entry 34: the reply for a FREE slot, or for a slot number above 255, carries
the slot and no job state. -/
def Obligations.SlotsAreCheckedReapedAndQueried : Prop :=
  (∀ (s : State) (k : ReqKind) (take : Bool) (tag : Byte) (rest : List ReqFrame) (slot : Nat) (more : List Byte),
     slot < 65536 →
     (k ∈ [ReqKind.pageEnd, .jobClose, .jobHold, .jobRelease, .jobCancel, .jobReap] ∧ more = [] ∨
       k = .pageBegin ∧ (more.length = 4 ∨ more.length = 5) ∨ k = .pageData) →
     Taken s k tag (Wire.field 2 slot ++ more) rest →
     (256 ≤ slot → exec (k.command take) s = .next (s.declined k tag rest .badArg (.job slot none))) ∧
     (∀ j : JobId, j.val = slot → s.part.room.job j = none →
       exec (k.command take) s = .next (s.declined k tag rest .notFound (.job slot none)))) ∧
  (∀ (s : State) (tag : Byte) (rest : List ReqFrame),
     (∀ (j : JobId) (x : Job), s.part.room.job j = some x → Taken s .jobReap tag (Wire.field 2 j.val) rest →
       (x.state ≠ .done → x.state ≠ .aborted → exec .jobReap s =
         .next (s.declined .jobReap tag rest .badState (.job j.val (some x.state)))) ∧
       (x.state = .aborted → x.bound ≠ none → exec .jobReap s =
         .next (s.declined .jobReap tag rest .busy (.job j.val (some x.state)))) ∧
       (x.state = .done ∨ x.state = .aborted ∧ x.bound = none → ∃ room,
         exec .jobReap s = .next (s.answered .jobReap tag rest room .ok (.job j.val none)) ∧
         room = { s.part.room with
           jobs := s.part.room.jobs.set j.val none j.isLt
           accounts := room.accounts
           attn := s.part.room.attn.filter fun k => k.src ≠ .job j } ∧
         ∀ a, room.account a = if a = x.account then
           (s.part.room.account a).map fun y => { y with refs := y.refs - 1 } else s.part.room.account a)) ∧
     (∀ slot, slot < 65536 → Taken s .jobQuery tag (Wire.field 2 slot) rest →
       (256 ≤ slot → exec .jobQuery s = .next (s.declined .jobQuery tag rest .badArg (.job slot none))) ∧
       ∀ j : JobId, j.val = slot →
         exec .jobQuery s = .next (s.declined .jobQuery tag rest .ok
           (.jobQuery j ((s.part.room.job j).map fun x =>
             { tag := x.tag, account := x.account, target := x.target, cls := x.cls, copies := x.copies,
               needs := x.needs, earlyStart := x.earlyStart, splitAllowed := x.splitAllowed,
               intakeOpen := x.intakeOpen, openPage := x.openPage.map fun e => (e.desc, e.length),
               pagesHeld := x.pages.length, firstIndex := x.pages.head?.map PageEntry.index,
               pageCount := x.pageCount, pos := x.pos, confirmed := x.confirmed, bound := x.bound,
               runCount := x.runCount, holdReason := x.holdReason, holdPending := x.holdPending,
               stallReason := x.stallReason, state := x.state,
               inFlight := match x.bound with
                 | some l => ((s.part.room.line l).window.filter fun e => e.job = j).length
                 | none => 0 })))))

/-- JOB-OPEN (R6): the refusals in their order; otherwise the lowest FREE slot holds the new job, its account's references
rise by one, and an early-start job goes on to the queue of its target. DEDUCED, log entry 34: the reply of a refused
JOB-OPEN carries no slot. -/
def Obligations.JobOpenFillsTheLowestFreeSlot : Prop :=
  ∀ (s : State) (tag : Byte) (rest : List ReqFrame) (a : JobOpenArgs), a.fitsFields →
    Taken s .jobOpen tag a.payload rest →
    let badArg := 512 ≤ a.account ∨ a.targetKind = 0 ∧ 8 ≤ a.target ∨ a.targetKind = 1 ∧ 24 ≤ a.target ∨
      2 ≤ a.targetKind ∨ 3 ≤ a.cls ∨ 3 ≤ a.colour ∨ a.copies = 0 ∨ 999 < a.copies
    (badArg → exec .jobOpen s = .next (s.declined .jobOpen tag rest .badArg .none)) ∧
    (¬badArg → ∀ account : AcctId, account.val = a.account →
      (s.part.room.account account = none →
        exec .jobOpen s = .next (s.declined .jobOpen tag rest .notFound .none)) ∧
      (s.part.room.account account ≠ none → (∀ j, s.part.room.job j ≠ none) →
        exec .jobOpen s = .next (s.declined .jobOpen tag rest .noSlot .none)) ∧
      (∀ (x : Account) (j : JobId), s.part.room.account account = some x → s.part.room.job j = none →
        (∀ k, k < j → s.part.room.job k ≠ none) →
        ∃ job : Job, job.tag.toNat = a.tag ∧ job.account = account ∧
          (∀ b : BayId, a.targetKind = 0 → b.val = a.target → job.target = .bay b) ∧
          (∀ l : LineId, a.targetKind = 1 → l.val = a.target → job.target = .line l) ∧
          job.cls.rank = a.cls ∧ job.copies = a.copies ∧ job.needs.colour.rank = a.colour ∧
          job.needs.duplex = a.duplex ∧ job.needs.media.toNat = a.media ∧ job.earlyStart = a.earlyStart ∧
          job.splitAllowed = a.splitAllowed ∧ job.intakeOpen = true ∧ job.openPage = none ∧ job.pages = [] ∧
          job.pageCount = 0 ∧ job.pos = .at 1 1 ∧ job.confirmed = 0 ∧ job.bound = none ∧ job.runCount = 0 ∧
          job.holdReason = none ∧ job.holdPending = false ∧ job.stallReason = none ∧ job.state = .loading ∧
          let room := (s.part.room.setJob j (some job)).setAccount account (some { x with refs := x.refs + 1 })
          (a.earlyStart = false → exec .jobOpen s =
            .next (s.answered .jobOpen tag rest room .ok (.job j.val (some .loading)))) ∧
          (a.earlyStart = true → exec .jobOpen s =
            .next (s.answered .jobOpen tag rest (room.queueJob j job) .ok
              (.job j.val (((room.queueJob j job).job j).map Job.state))))))

/-- PAGE-BEGIN (R7, R3): the refusals in their order; otherwise one entry leaves the pool and becomes the open page,
with coverages above 100 taken as 100 and reported with CLAMPED. -/
def Obligations.PageBeginOpensAPage : Prop :=
  ∀ (s : State) (tag : Byte) (rest : List ReqFrame) (a : PageBeginArgs) (j : JobId) (x : Job), a.fitsFields →
    a.slot = j.val → s.part.room.job j = some x → Taken s .pageBegin tag a.payload rest →
    let badState := x.state = .done ∨ x.state = .aborted ∨ x.intakeOpen = false ∨ x.openPage ≠ none
    let badDescriptor := 16 ≤ a.media ∨ a.sides = 0 ∨ 3 ≤ a.sides ∨ a.sides = 2 ∧ a.back = none ∨ 3 ≤ a.colour ∨
      x.needs.colour.rank < a.colour ∨ a.sides = 2 ∧ x.needs.duplex = false ∨
      x.needs.media.getLsbD a.media = false
    let refused := fun status : Status => exec .pageBegin s =
      .next (s.declined .pageBegin tag rest status (.job j.val (some x.state)))
    (badState → refused .badState) ∧
    (¬badState → x.pageCount = 4096 ∨ badDescriptor → refused .badArg) ∧
    (¬badState → x.pageCount ≠ 4096 → ¬badDescriptor → s.part.room.freeEntries = 0 → refused .noSlot) ∧
    (¬badState → x.pageCount ≠ 4096 → ¬badDescriptor → s.part.room.freeEntries ≠ 0 →
      ∃ d : Descriptor, d.media.val = a.media ∧ d.colour.code.val = a.colour ∧ d.front = min 100 a.front ∧
        d.back = (if a.sides = 2 then a.back.map (min 100) else none) ∧
        exec .pageBegin s = .next (s.answered .pageBegin tag rest
          ({ s.part.room with freeEntries := s.part.room.freeEntries - 1 }.setJob j
            (some { x with openPage := some { index := x.pageCount + 1, desc := d, length := 0, chain := [],
                                              copies := 0 } }))
          (if 100 < a.front ∨ a.sides = 2 ∧ 100 < a.back.getD 0 then .clamped else .ok)
          (.pageIndex j x.state (x.pageCount + 1))))

/-- PAGE-DATA (R8, R28): the refusals; otherwise the bytes follow those the page holds, in the chain or in one block
more, and every other byte of the DRAM reads as before. -/
def Obligations.PageDataAppendsItsBytes : Prop :=
  ∀ (s : State) (tag : Byte) (rest : List ReqFrame) (j : JobId) (x : Job) (bytes : List Byte),
    s.part.room.job j = some x → Taken s .pageData tag (Wire.field 2 j.val ++ bytes) rest →
    (x.openPage = none → exec .pageData s =
      .next (s.declined .pageData tag rest .badState (.job j.val (some x.state)))) ∧
    ∀ e : PageEntry, x.openPage = some e →
      (bytes.length = 0 ∨ 2040 < bytes.length → exec .pageData s =
        .next (s.declined .pageData tag rest .badArg (.job j.val (some x.state)))) ∧
      (1 ≤ bytes.length → bytes.length ≤ 2040 → 8192 * e.chain.length - e.length < bytes.length →
        s.part.room.store.blocks ≤ s.part.room.store.used.length → exec .pageData s =
        .next (s.declined .pageData tag rest .noSpace (.job j.val (some x.state)))) ∧
      (1 ≤ bytes.length → bytes.length ≤ 2040 → Dram.wf s.part.dram = true → s.part.storeSound →
        e.chain.Nodup → (∀ b ∈ e.chain, b ∈ s.part.room.store.used) → e.length ≤ 8192 * e.chain.length →
        bytes.length ≤ 8192 * e.chain.length - e.length ∨
          s.part.room.store.used.length < s.part.room.store.blocks →
        ∃ (dram : List (Nat × Byte)) (room : Room) (chain : List Nat),
          exec .pageData s =
            .next (State.answered { s with part := { s.part with dram := dram } } .pageData tag rest
              (room.setJob j (some
                { x with openPage := some { e with chain := chain, length := e.length + bytes.length } })) .ok
              (.pageLength j x.state (e.length + bytes.length))) ∧
          (bytes.length ≤ 8192 * e.chain.length - e.length → chain = e.chain ∧ room = s.part.room) ∧
          (8192 * e.chain.length - e.length < bytes.length → ∃ b, chain = e.chain ++ [b] ∧
            s.part.room.takeBlock = some (b, room)) ∧
          Dram.readRun s.part.room.store.blocks chain dram e.length bytes.length = some bytes ∧
          ∀ address, (∀ i, i < bytes.length →
              Dram.address s.part.room.store.blocks chain (e.length + i) ≠ some address) →
            Dram.read dram address = Dram.read s.part.dram address)

/-- R26, R35 and R36: a block taken is the lowest-numbered free one, and takes the store to LOW with its mark when the
free count falls below N/16; blocks returned join the free ones, and the condition clears at N/8. -/
def Obligations.BlocksAreTakenLowestFirst : Prop :=
  (∀ (r : Room), r.store.used.Pairwise (· < ·) → (∀ b ∈ r.store.used, b < r.store.blocks) →
    (r.takeBlock = none ↔ r.store.used.length = r.store.blocks) ∧
    ∀ b r', r.takeBlock = some (b, r') →
      b ∉ r.store.used ∧ b < r.store.blocks ∧ (∀ c, c < b → c ∈ r.store.used) ∧
      (∀ c, c ∈ r'.store.used ↔ c = b ∨ c ∈ r.store.used) ∧ r'.store.used.Pairwise (· < ·) ∧
      r'.store.freeCount + 1 = r.store.freeCount ∧
      (r'.store.low = true ↔ r.store.low = true ∨ r.store.freeCount - 1 < r.store.blocks / 16) ∧
      (r.store.low = false → r'.store.low = true → r'.marked .device .storeLow) ∧
      (r.store.low = r'.store.low → r' = { r with store := r'.store })) ∧
  (∀ (t : Store) (chain : List Nat), t.used.Pairwise (· < ·) → chain ≠ [] →
    (∀ b, b ∈ (t.release chain).used ↔ b ∈ t.used ∧ b ∉ chain) ∧ (t.release chain).used.Pairwise (· < ·) ∧
    ((t.release chain).low = true ↔ t.low = true ∧ (t.release chain).freeCount < t.blocks / 8) ∧
    (t.release chain).strap = t.strap)

/-- PAGE-END (R9): the open page joins the page list and the page count rises; a QUEUED job that was waiting for it is
offered to the arbiter, and a job STALLED for DATA returns to ACTIVE and its line goes on. JOB-CLOSE (R10): refused
unless intake is OPEN in a state that takes it; otherwise an open page is discarded with its blocks, intake is CLOSED,
a waiting position is resolved, a LOADING job with pages left to print is queued, and a job with nothing left enters
DONE. What arbiterJob, queueJob, proceed, complete and drain do is said by TheArbiterBindsJobsAndLines,
QueuesKeepDispatchOrder, TheLineGoesOn and CompletionFreesTheJobAndItsLine. DEDUCED: a job already at END whose last
sheet is confirmed completes at once (log entry 15), and a bound job brought to END sends JOB-END(COMPLETE) at once
when no page is open (log entries 16 and 17). -/
def Obligations.PageEndAndJobClose : Prop :=
  (∀ (s : State) (tag : Byte) (rest : List ReqFrame) (j : JobId) (x : Job),
     s.part.room.job j = some x → Taken s .pageEnd tag (Wire.field 2 j.val) rest →
     (x.openPage = none → exec .pageEnd s =
       .next (s.declined .pageEnd tag rest .badState (.job j.val (some x.state)))) ∧
     ∀ e : PageEntry, x.openPage = some e →
       let x' := { x with openPage := none, pages := x.pages ++ [e], pageCount := x.pageCount + 1 }
       let answer := fun room : Room => exec .pageEnd s = .next (s.answered .pageEnd tag rest room .ok
         (.pageEnded j (((room.job j).map Job.state).getD x.state) e.index (x.pageCount + 1)))
       (¬(x.state = .stalled ∧ x.stallReason = some .data ∧ x.cutPending = false) →
         ¬(x.state = .queued ∧ x.waiting = true) → answer (s.part.room.setJob j (some x'))) ∧
       (x.state = .queued → x.waiting = true → answer ((s.part.room.setJob j (some x')).arbiterJob j)) ∧
       (∀ l, x.state = .stalled → x.stallReason = some .data → x.cutPending = false → x.bound = some l →
         answer (((s.part.room.setJob j (some { x' with state := .active, stallReason := none })).setLine l
           { s.part.room.line l with stall := none }).proceed l))) ∧
  (∀ (s : State) (tag : Byte) (rest : List ReqFrame) (j : JobId) (x : Job),
     s.part.room.job j = some x → Taken s .jobClose tag (Wire.field 2 j.val) rest →
     let badState := x.intakeOpen = false ∨ x.state = .done ∨ x.state = .aborted
     (badState → exec .jobClose s =
       .next (s.declined .jobClose tag rest .badState (.job j.val (some x.state)))) ∧
     (¬badState →
       let room := match x.openPage with
         | some e => s.part.room.returnEntry e
         | none => s.part.room
       let answer := fun r : Room => exec .jobClose s = .next (s.answered .jobClose tag rest r .ok
         (.jobClosed j (((r.job j).map Job.state).getD x.state) x.pageCount x.openPage.isSome))
       ∃ x' : Job, x' = { x with intakeOpen := false, openPage := none, pos := x'.pos } ∧
         (x.waiting = false → x'.pos = x.pos) ∧
         (∀ c p, x.pos = .at c p → x.waiting = true →
           x'.pos = if c < x.copies then .at (c + 1) 1 else .done) ∧
         (x.confirmed = x.copies * x.pageCount → answer ((room.setJob j (some x')).complete j x')) ∧
         (x.confirmed ≠ x.copies * x.pageCount → x.state = .loading →
           answer ((room.setJob j (some x')).queueJob j x')) ∧
         (x.confirmed ≠ x.copies * x.pageCount → x.state = .held ∨ x.state = .queued ∧ x.waiting = false →
           x.bound = none → answer (room.setJob j (some x'))) ∧
         (x.confirmed ≠ x.copies * x.pageCount → x.state = .queued → x.waiting = true →
           answer ((room.setJob j (some x')).arbiterJob j)) ∧
         (∀ l, x.confirmed ≠ x.copies * x.pageCount → x.state = .stalled → x.stallReason = some .data →
           x.cutPending = false → x.bound = some l →
           answer (((room.setJob j (some { x' with state := .active, stallReason := none })).setLine l
             { room.line l with stall := none }).proceed l)) ∧
         (∀ l, x.confirmed ≠ x.copies * x.pageCount → x.state = .active ∨ x.state = .suspended ∨
             x.state = .stalled ∧ (x.stallReason ≠ some .data ∨ x.cutPending = true) →
           x.bound = some l → answer ((room.setJob j (some x')).drain l))))

/-- JOB-HOLD and JOB-RELEASE (R11 to R13). The reply field "held at once" is yes for a QUEUED job alone, and no for a
bound job whose hold takes effect within the request: DEDUCED, log entry 19. A QUEUED job is HELD at once. A bound one
gains a pending hold; on a BUSY line with an empty window it takes effect at once with JOB-END(CUT), the job being
HELD for HOST and its line free of it. A HELD job is queued again. A hold taken in RECOVERING once RESYNC has been
sent waits for the JOB-START that follows, begun or not (the model's choice, log entry 45). A pending hold is dropped:
an ACTIVE job's line goes on, a STALLED job that is not cut-pending starts its stall timer again, with the bay's
present timeout (the model's choice where a SET-BAY changed it during the hold, log entry 43), and a cut-pending one
starts none: DEDUCED, log entry 20. Other states refuse with BAD_STATE. -/
def Obligations.HoldAndRelease : Prop :=
  ∀ (s : State) (tag : Byte) (rest : List ReqFrame) (j : JobId) (x : Job), s.part.room.job j = some x →
    (Taken s .jobHold tag (Wire.field 2 j.val) rest →
      (x.state = .loading ∨ x.state = .held ∨ x.state = .done ∨ x.state = .aborted → exec .jobHold s =
        .next (s.declined .jobHold tag rest .badState (.job j.val (some x.state)))) ∧
      (x.state = .queued → exec .jobHold s =
        .next (s.answered .jobHold tag rest
          ((s.part.room.setQueue x.target ((s.part.room.queue x.target).filter fun k => k ≠ j)).setJob j
            (some { x with state := .held, holdReason := some .host, blocked := false })) .ok
          (.jobHeld j .held true))) ∧
      (x.state = .active ∨ x.state = .stalled ∨ x.state = .suspended →
        (x.holdPending = true → exec .jobHold s =
          .next (s.declined .jobHold tag rest .ok (.jobHeld j x.state false))) ∧
        (∀ l, x.holdPending = false → x.bound = some l →
          (s.part.room.line l).window ≠ [] ∨ (s.part.room.line l).state ≠ .busy → exec .jobHold s =
          .next (s.answered .jobHold tag rest
            ((s.part.room.setJob j (some { x with holdPending := true })).setLine l
              { s.part.room.line l with
                stall := if x.state = .suspended then (s.part.room.line l).stall else none }) .ok
            (.jobHeld j x.state false))) ∧
        (∀ l, x.holdPending = false → x.cutPending = false → x.state ≠ .suspended → x.bound = some l →
          (s.part.room.line l).job = some j → (s.part.room.line l).window = [] → (s.part.room.line l).state = .busy →
          (∀ target, j ∉ s.part.room.queue target) →
          let y := s.part.room.line l
          ∃ room, exec .jobHold s = .next (s.answered .jobHold tag rest room .ok (.jobHeld j .held false)) ∧
            room.job j = some { x with state := .held, bound := none, holdReason := some .host, holdPending := false,
                                       stallReason := none, cutPending := false } ∧
            (room.line l).job ≠ some j ∧ ((room.line l).state = .idle ∨ (room.line l).state = .busy) ∧
            (room.line l).window = [] ∧ room.accounts = s.part.room.accounts ∧ room.store = s.part.room.store ∧
            (y.tx.hold = none → y.tx.sending = [] → y.tx.due = [] → y.tx.pollDue = false →
              (room.line l).tx.hold = some { value := 0x15#8, marker := true, role := .plain } ∧
              (room.line l).tx.sending = [{ value := 1#8, marker := false, role := .plain },
                { value := Wire.crc8 0x15#8 [1#8], marker := true, role := .plain }])))) ∧
    (Taken s .jobRelease tag (Wire.field 2 j.val) rest →
      (x.state ≠ .held → x.holdPending = false → exec .jobRelease s =
        .next (s.declined .jobRelease tag rest .badState (.job j.val (some x.state)))) ∧
      (x.state = .held →
        let room := s.part.room.queueJob j x
        exec .jobRelease s =
          .next (s.answered .jobRelease tag rest room .ok (.job j.val ((room.job j).map Job.state)))) ∧
      (x.state = .suspended → x.holdPending = true → exec .jobRelease s =
        .next (s.answered .jobRelease tag rest (s.part.room.setJob j (some { x with holdPending := false })) .ok
          (.job j.val (some x.state)))) ∧
      (∀ l, x.state = .active → x.holdPending = true → x.bound = some l →
        let room := (s.part.room.setJob j (some { x with holdPending := false })).proceed l
        exec .jobRelease s =
          .next (s.answered .jobRelease tag rest room .ok (.job j.val ((room.job j).map Job.state)))) ∧
      (∀ l, x.state = .stalled → x.holdPending = true → x.bound = some l → exec .jobRelease s =
        .next (s.answered .jobRelease tag rest
          (if x.cutPending then s.part.room.setJob j (some { x with holdPending := false })
           else (s.part.room.setJob j (some { x with holdPending := false })).setLine l
             { s.part.room.line l with stall :=
                 match (s.part.room.line l).bay with
                 | some b => if s.part.room.stallTimeout.get b = 0 then none
                     else some (1000 * s.part.room.stallTimeout.get b)
                 | none => none }) .ok
          (.job j.val (some .stalled)))))

/-- JOB-CANCEL (R14, R15): refused in DONE and ABORTED; an unbound job leaves its queue, returns its pages and blocks,
and is ABORTED with its mark; a bound job is ABORTED and stays bound while its line's window holds an entry or the
line is not BUSY, the page its line is sending being the only one it keeps; on a BUSY line with an empty window it
leaves at once with JOB-END(ABORT). The model's choice (log entry 12): a page that the line has opened, and whose
PAGE-OPEN is not yet begun, is kept likewise, since its PAGE-OPEN is still to be sent; and (log entry 45) a cancel
taken in RECOVERING once RESYNC has been sent waits for the JOB-START that follows, begun or not. -/
def Obligations.JobCancelAborts : Prop :=
  ∀ (s : State) (tag : Byte) (rest : List ReqFrame) (j : JobId) (x : Job),
    s.part.room.job j = some x → Taken s .jobCancel tag (Wire.field 2 j.val) rest →
    (x.state = .done ∨ x.state = .aborted → exec .jobCancel s =
      .next (s.declined .jobCancel tag rest .badState (.job j.val (some x.state)))) ∧
    (x.state ≠ .done → x.state ≠ .aborted →
      let gone : Job := { x with
        state := .aborted, holdPending := false, holdReason := none, stallReason := none, openPage := none,
        pages := [], blocked := false, cutPending := false }
      let left := s.part.room.setQueue x.target ((s.part.room.queue x.target).filter fun k => k ≠ j)
      let room := match x.openPage with
        | some e => left.returnEntry e
        | none => left
      (x.bound = none → exec .jobCancel s =
        .next (s.answered .jobCancel tag rest
          (((room.returnEntries x.pages).setJob j (some gone)).mark (.job j) (.aborted x.confirmed)) .ok
          (.jobCancelled j .aborted false))) ∧
      (∀ l, x.bound = some l → (s.part.room.line l).job = some j →
        let y := s.part.room.line l
        let kept : Option PageEntry := match y.page with
          | some pg => if pg.job = j ∧ pg.deferred = false then x.pages.find? fun e => e.index == pg.entry.index else none
          | none => none
        let returned := match kept with
          | some e => x.pages.erase e
          | none => x.pages
        (y.window ≠ [] ∨ y.state ≠ .busy →
          exec .jobCancel s = .next (s.answered .jobCancel tag rest
            (((room.returnEntries returned).setJob j (some gone)).setLine l
              { y with
                stall := none
                alert := y.alert.map fun a =>
                  { a with failover := if a.failover = .taken then .taken else .none }
                page := match kept with
                  | some e => y.page.map fun pg => { pg with entry := e, deferred := true }
                  | none => y.page }) .ok
            (.jobCancelled j .aborted true))) ∧
        (y.window = [] → y.state = .busy → (∀ target, target ≠ x.target → j ∉ s.part.room.queue target) →
          ∃ after, exec .jobCancel s = .next (s.answered .jobCancel tag rest after .ok
              (.jobCancelled j .aborted false)) ∧
            after.job j = some { gone with bound := none } ∧ after.marked (.job j) (.aborted x.confirmed) ∧
            after.freeEntries = (room.returnEntries returned).freeEntries ∧
            after.store = (room.returnEntries returned).store ∧ after.accounts = s.part.room.accounts ∧
            (after.line l).job ≠ some j ∧ ((after.line l).state = .idle ∨ (after.line l).state = .busy) ∧
            (y.tx.hold = none → y.tx.sending = [] → y.tx.due = [] → y.tx.pollDue = false →
              (after.line l).tx.hold = some { value := 0x15#8, marker := true, role := .plain } ∧
              (after.line l).tx.sending = [{ value := 2#8, marker := false, role := .plain },
                { value := Wire.crc8 0x15#8 [2#8], marker := true, role := .plain }]))))

/-- R40 to R42: in a queue kept in class order, a job that enters stands behind every job of a higher class and ahead
of every job of a lower one; among its own class it is last when it has never run and first when it has. A job that becomes
QUEUED loses its hold reason and its blocked flag, takes that place, and is offered to the arbiter: where no IDLE line of its
target has a printer that covers it, or its next instance is not there yet, it waits in the queue. -/
def Obligations.QueuesKeepDispatchOrder : Prop :=
  ∀ (r : Room) (j : JobId) (x : Job), r.job j = some x →
    let q := r.queue x.target
    (q.Pairwise fun a b => r.classRank a ≤ r.classRank b) → j ∉ q →
    let q' := (r.enterQueue j x).queue x.target
    (q'.Pairwise fun a b => r.classRank a ≤ r.classRank b) ∧ q'.filter (fun k => k ≠ j) = q ∧ j ∈ q' ∧
      (x.runCount = 0 → ∃ ahead behind, q' = ahead ++ j :: behind ∧
        (∀ k ∈ ahead, r.classRank k ≤ x.cls.rank) ∧ ∀ k ∈ behind, x.cls.rank < r.classRank k) ∧
      (x.runCount ≠ 0 → ∃ ahead behind, q' = ahead ++ j :: behind ∧
        (∀ k ∈ ahead, r.classRank k < x.cls.rank) ∧ ∀ k ∈ behind, x.cls.rank ≤ r.classRank k) ∧
      (∀ target, target ≠ x.target → (r.enterQueue j x).queue target = r.queue target) ∧
      ((r.enterQueue j x).leaveQueue j x).queue x.target = q ∧
      let queued : Job := { x with state := .queued, bound := none, holdReason := none, blocked := false }
      (r.queueJob j x = ((r.setJob j (some queued)).setQueue x.target q').arbiterJob j) ∧
      (x.nextEntry = none ∨
          (∀ l ∈ r.targets x.target, (r.line l).state = .idle → (r.line l).covers x = false) →
        r.queueJob j x = (r.setJob j (some queued)).setQueue x.target q')

/-- R43 to R46 and R48. From a job's side: a job that becomes available is bound to the lowest-numbered IDLE line of its
target whose printer covers it, if its instance is affordable; its run count rises, it leaves its queue, and JOB-START is
due. From a line's side: a line that becomes IDLE takes the first eligible job of its own queue, and then of its bay's;
a job that its printer covers, and that is passed over only because its instance is unaffordable, has its blocked flag set,
with BUDGET_BLOCKED where it was clear, whether or not a job behind it is bound. The model's choices: a binding raises the line's turn by one, which the END of its
JOB-START carries (log entry 23), and reserves nothing, so that every account stays as it was (log entry 40). -/
def Obligations.TheArbiterBindsJobsAndLines : Prop :=
  (∀ (r : Room) (j : JobId) (x : Job) (e : PageEntry) (acct : Account) (l : LineId), r.job j = some x →
    x.state = .queued → x.nextEntry = some e → r.account x.account = some acct → l ∈ r.targets x.target →
    let fit := fun k : LineId => k ∈ r.targets x.target ∧ (r.line k).state = .idle ∧ (r.line k).covers x = true
    fit l → (∀ k, k < l → ¬fit k) →
    let charge := r.chargeOf acct e.desc
    (acct.mode ≠ .hard ∨ charge ≤ acct.limit - (acct.consumed + acct.held) →
      let run := min 65535 (x.runCount + 1)
      let r' := r.arbiterJob j
      r'.job j = some { x with state := .active, bound := some l, runCount := run, blocked := false } ∧
        (r'.line l).state = .busy ∧ (r'.line l).job = some j ∧ (r'.line l).started = false ∧
        (r'.line l).turn = (r.line l).turn + 1 ∧
        (r'.line l).window = (r.line l).window ∧ j ∉ r'.queue x.target ∧ (∀ k, k ≠ l → r'.line k = r.line k) ∧
        r'.accounts = r.accounts ∧ r'.attn = r.attn ∧
        ((r.line l).tx.hold = none → (r.line l).tx.sending = [] → (r.line l).tx.due = [] →
          (r.line l).tx.pollDue = false →
          let body := Wire.field 4 x.tag.toNat ++ Wire.field 2 run
          (r'.line l).tx.hold = some { value := 0x11#8, marker := true, role := .plain } ∧
          (r'.line l).tx.sending = (body.map fun b => TxChar.mk b false .plain) ++
            [{ value := Wire.crc8 0x11#8 body, marker := true, role := .ends (.jobStart (r'.line l).turn) }])) ∧
    (acct.mode = .hard → acct.limit - (acct.consumed + acct.held) < charge →
      r.arbiterJob j = if x.blocked = true then r else
        (r.setJob j (some { x with blocked := true })).mark (.job j) (.budgetBlocked charge))) ∧
  (∀ (r : Room) (l : LineId), (r.line l).state = .idle →
    let r' := r.arbiterLine l
    let waiting := r.queue (.line l) ++ (match (r.line l).bay with
      | some b => r.queue (.bay b)
      | none => [])
    let suits := fun (k : JobId) (z : Job) (e : PageEntry) (acct : Account) => r.job k = some z ∧
      (r.line l).covers z = true ∧ z.nextEntry = some e ∧ r.account z.account = some acct
    let eligible := fun k : JobId => ∃ z e acct, suits k z e acct ∧
      (acct.mode ≠ .hard ∨ r.chargeOf acct e.desc ≤ acct.limit - (acct.consumed + acct.held))
    r'.accounts = r.accounts ∧ (∀ k, k ≠ l → r'.line k = r.line k) ∧
    ((∀ k ∈ waiting, ¬eligible k) → r'.line l = r.line l ∧ (∀ target, r'.queue target = r.queue target) ∧
      ∀ k z, r.job k = some z → r'.job k = some { z with blocked := (z.blocked ||
        decide (k ∈ waiting ∧ (r.line l).covers z = true ∧ z.nextEntry ≠ none ∧ r.account z.account ≠ none)) }) ∧
    (∀ passed j behind x, waiting = passed ++ j :: behind → (∀ k ∈ passed, ¬eligible k) → eligible j →
      r.job j = some x →
      r'.job j = some { x with
        state := .active, bound := some l, runCount := min 65535 (x.runCount + 1), blocked := false } ∧
      (r'.line l).state = .busy ∧ (r'.line l).job = some j ∧ (r'.line l).started = false ∧
      (r'.line l).turn = (r.line l).turn + 1 ∧ (r'.line l).window = (r.line l).window ∧ j ∉ r'.queue x.target ∧
      (∀ k z e acct, k ∈ passed → suits k z e acct → z.blocked = false →
        r'.marked (.job k) (.budgetBlocked (r.chargeOf acct e.desc))) ∧
      ∀ k z, k ≠ j → r.job k = some z → r'.job k = some { z with blocked := (z.blocked ||
        decide (k ∈ passed ∧ (r.line l).covers z = true ∧ z.nextEntry ≠ none ∧ r.account z.account ≠ none)) }) ∧
    (∀ k z e acct, k ∈ waiting → suits k z e acct → ¬eligible k → z.blocked = false → (∀ i ∈ waiting, ¬eligible i) →
      r'.marked (.job k) (.budgetBlocked (r.chargeOf acct e.desc)))) ∧
  (∀ (r : Room) (l : LineId), (r.line l).state ≠ .idle → r.arbiterLine l = r)

/-- R52: the Dispatch Unit re-examines the jobs billed to one account. A job STALLED for BUDGET that is not cut-pending is
quoted again: affordable, it is ACTIVE again, its stall timer stops and its line opens the instance; unaffordable, it stays as
it is. A QUEUED job with its blocked flag set is quoted after that: affordable, the flag is cleared and the arbiter runs for
it; unaffordable, it stays. No other account changes, and with no such job nothing does. -/
def Obligations.ReexaminationRetriesTheAccountsJobs : Prop :=
  ∀ (r : Room) (a : AcctId),
    let stalled := fun (l : LineId) (j : JobId) (x : Job) => (r.line l).job = some j ∧ r.job j = some x ∧
      x.state = .stalled ∧ x.stallReason = some .budget ∧ x.account = a ∧ x.cutPending = false
    let blocked := fun (j : JobId) (x : Job) => r.job j = some x ∧ x.state = .queued ∧ x.blocked = true ∧ x.account = a
    let affordable := fun (acct : Account) (charge : Nat) =>
      acct.mode ≠ .hard ∨ charge ≤ acct.limit - (acct.consumed + acct.held)
    let r' := r.reexamine a
    (∀ b, b ≠ a → r'.account b = r.account b) ∧
    ((∀ l j x, ¬stalled l j x) → (∀ j x, ¬blocked j x) → r' = r) ∧
    (∀ j x e acct, (∀ l i z, ¬stalled l i z) → blocked j x → (∀ i z, blocked i z → i = j) → x.nextEntry = some e →
      r.account a = some acct →
      (affordable acct (r.chargeOf acct e.desc) →
        r' = (r.setJob j (some { x with blocked := false })).arbiterJob j) ∧
      (¬affordable acct (r.chargeOf acct e.desc) → r' = r)) ∧
    (∀ l j x e acct copy page, stalled l j x → x.pos = .at copy page → x.nextEntry = some e → r.account a = some acct →
      (r.line l).state = .busy →
      let y := r.line l
      let charge := r.chargeOf acct e.desc
      (¬affordable acct charge → (∀ k, k ≠ l → (r.line k).job ≠ some j) → r'.line l = y ∧ r'.job j = some x) ∧
      (affordable acct charge → (∀ k i z, stalled k i z → k = l) → y.started = true → y.page = none →
        y.window.length < y.depth → y.endSent = false → x.holdPending = false →
        r'.job j = some { x with state := .active, stallReason := none, pos := x.stepFrom copy page } ∧
        (r'.line l).window = y.window ++ [{ job := j, copy := copy, page := page, charge := charge,
                                            account := a, closed := false, desc := e.desc }] ∧
        (∃ pg, (r'.line l).page = some pg ∧ pg.job = j ∧ pg.copy = copy ∧ pg.entry = e) ∧ (r'.line l).stall = none ∧
        ∃ acct', r'.account a = some acct' ∧
          acct' = { acct with held := acct.held + charge, crossed := acct'.crossed }))

/-- R18, R49, R86 to R89 and R116: how a line that holds a job goes on (the definition every event ends in). A line
that is not BUSY does nothing, a RECOVERING line whose RESYNC has been sent among them (the model's choice, log entry
45). On a BUSY line with an empty window an ABORTED job leaves with JOB-END(ABORT) and its mark, a cut-pending one
with JOB-END(CUT) and CUT, one with a pending hold with JOB-END(CUT), HELD for HOST. Otherwise the next instance is
opened when the line and the job may: affordable, its charge is reserved and stored in its window entry, its page is
opened and the position steps on; unaffordable, EXHAUSTED is marked and the job stalls for BUDGET; waiting for a page,
it stalls for DATA. At END with no page open JOB-END(COMPLETE) is sent, once in a run. A cut that is due sends it not:
DEDUCED, log entry 17. -/
def Obligations.TheLineGoesOn : Prop :=
  ∀ (r : Room) (l : LineId) (j : JobId) (x : Job), (r.line l).job = some j → r.job j = some x →
    let y := r.line l
    let r' := r.proceed l
    let jobEnd := fun code : Byte => y.tx.hold = none → y.tx.sending = [] → y.tx.due = [] → y.tx.pollDue = false →
      (r'.line l).tx.hold = some { value := 0x15#8, marker := true, role := .plain } ∧
      (r'.line l).tx.sending = [{ value := code, marker := false, role := .plain },
        { value := Wire.crc8 0x15#8 [code], marker := true, role := .plain }]
    let leaves := fun (x' : Job) (code : Byte) => r'.job j = some x' ∧ (r'.line l).job ≠ some j ∧
      ((r'.line l).state = .idle ∨ (r'.line l).state = .busy) ∧ (r'.line l).window = [] ∧ r'.accounts = r.accounts ∧
      r'.store = r.store ∧ jobEnd code
    let held := fun reason : HoldReason => { x with
      state := .held, bound := none, holdReason := some reason, holdPending := false, stallReason := none,
      cutPending := false }
    let stall := match y.bay with
      | some b => if r.stallTimeout.get b = 0 then none else some (1000 * r.stallTimeout.get b)
      | none => none
    let leaving := x.state = .aborted ∨ x.cutPending = true ∨ x.holdPending = true ∧ x.state ≠ .suspended
    (y.state ≠ .busy → r' = r) ∧
    (y.state = .busy → y.window = [] → (∀ target, j ∉ r.queue target) →
      (x.state = .aborted → leaves { x with bound := none } 2#8 ∧ r'.marked (.job j) (.aborted x.confirmed)) ∧
      (∀ reason, x.state ≠ .aborted → x.cutPending = true → x.stallReason = some reason →
        leaves (held (if reason = .budget then .budget else .data)) 1#8 ∧
          r'.marked (.job j) (.cut (if reason = .budget then .budget else .data))) ∧
      (x.state ≠ .aborted → x.cutPending = false → x.holdPending = true → x.state ≠ .suspended →
        leaves (held .host) 1#8)) ∧
    (y.state = .busy → y.started = true → y.page = none → y.window.length < y.depth → y.endSent = false →
      x.state = .active → x.holdPending = false → x.cutPending = false → ∀ copy page, x.pos = .at copy page →
      (∀ e acct, x.nextEntry = some e → r.account x.account = some acct →
        let charge := r.chargeOf acct e.desc
        (acct.mode ≠ .hard ∨ charge ≤ acct.limit - (acct.consumed + acct.held) →
          (r'.line l).window = y.window ++ [{ job := j, copy := copy, page := page, charge := charge,
                                              account := x.account, closed := false, desc := e.desc }] ∧
          (r'.line l).page = some { job := j, copy := copy, entry := e, cursor := (r'.line l).page.bind PageTx.cursor,
                                    closing := false, deferred := false } ∧
          (r'.line l).state = .busy ∧ (r'.line l).job = some j ∧ (∀ k, k ≠ l → r'.line k = r.line k) ∧
          r'.job j = some { x with pos := x.stepFrom copy page } ∧ (∀ k, k ≠ j → r'.job k = r.job k) ∧
          (∃ acct', r'.account x.account = some acct' ∧
            acct' = { acct with held := acct.held + charge, crossed := acct'.crossed }) ∧
          ∀ a, a ≠ x.account → r'.account a = r.account a) ∧
        (acct.mode = .hard → acct.limit - (acct.consumed + acct.held) < charge →
          r' = ((r.mark (.account x.account) (.exhausted charge)).setJob j
            (some { x with state := .stalled, stallReason := some .budget })).setLine l { y with stall := stall })) ∧
      (x.waiting = true → r' =
        (r.setJob j (some { x with state := .stalled, stallReason := some .data })).setLine l
          { y with stall := stall })) ∧
    (y.state = .busy → x.pos = .done → y.page = none → y.started = true → y.endSent = false → x.state ≠ .aborted →
      x.cutPending = false → ¬(y.window = [] ∧ leaving) →
      (r'.line l).endSent = true ∧ (r'.line l).window = y.window ∧ (r'.line l).state = .busy ∧
        (r'.line l).job = some j ∧ r'.jobs = r.jobs ∧ r'.accounts = r.accounts ∧ r'.attn = r.attn ∧ jobEnd 0#8)

/-- R19: a confirmed instance raises the confirmed count and its page's copies, and a page confirmed for its last copy
leaves the list and returns to its pool; an ABORTED job is only counted. R21: with intake CLOSED and every instance confirmed
the job is DONE with its mark, leaves its queue, and is unbound; its pages and their blocks return. Its line becomes IDLE and
looks for a job, or stays in ALERT, with JOB-END(COMPLETE) sent, or held in ALERT, unless the run has sent it. That a line in RECOVERING is
IDLE at once, with the JOB-END(COMPLETE) due, is DEDUCED, log entry 15. -/
def Obligations.CompletionFreesTheJobAndItsLine : Prop :=
  (∀ (r : Room) (e : Entry) (x : Job), r.job e.job = some x →
    let r' := r.jobConfirm e
    let counted := x.pages.map fun p => if p.index = e.page then { p with copies := p.copies + 1 } else p
    let whole := fun p : PageEntry => decide (p.index = e.page ∧ x.copies ≤ p.copies)
    let x' := { x with confirmed := x.confirmed + 1, pages := counted.filter fun p => !whole p }
    let freed := (r.setJob e.job (some x')).returnEntries (counted.filter fun p => whole p)
    (x.state = .aborted → r' = r.setJob e.job (some { x with confirmed := x.confirmed + 1 })) ∧
    (x.state ≠ .aborted → x.intakeOpen = true ∨ x.confirmed + 1 ≠ x.copies * x.pageCount → r' = freed) ∧
    (x.state ≠ .aborted → x.intakeOpen = false → x.confirmed + 1 = x.copies * x.pageCount →
      r' = freed.complete e.job x')) ∧
  (∀ (r : Room) (j : JobId) (x : Job), r.job j = some x → (∀ target, target ≠ x.target → j ∉ r.queue target) →
    let r' := r.complete j x
    r'.job j = some { x with
        state := .done, bound := none, holdReason := none, holdPending := false, stallReason := none,
        blocked := false, cutPending := false, pages := [] } ∧
      r'.marked (.job j) (.done x.confirmed) ∧ j ∉ r'.queue x.target ∧ r'.accounts = r.accounts ∧
      r'.freeEntries = r.freeEntries + x.pages.length ∧
      r'.store = x.pages.foldl (fun store e => store.release e.chain) r.store ∧
      (x.bound = none → r'.lines = r.lines ∧ ∀ k, k ≠ j → r'.job k = r.job k) ∧
      ∀ l, x.bound = some l → (r.line l).job = some j →
        let y := r.line l
        let z := r'.line l
        z.job ≠ some j ∧ z.window = y.window ∧ (∀ k, k ≠ l → r'.line k = r.line k) ∧
          (y.state = .busy ∨ y.state = .recovering →
            (z.state = .idle ∨ z.state = .busy) ∧
            (y.endSent = false → y.tx.hold = none → y.tx.sending = [] → y.tx.due = [] → y.tx.pollDue = false →
              z.tx.hold = some { value := 0x15#8, marker := true, role := .plain } ∧
              z.tx.sending = [{ value := 0#8, marker := false, role := .plain },
                { value := Wire.crc8 0x15#8 [0#8], marker := true, role := .plain }]) ∧
            (r.queue (.line l) = [] → (∀ b, y.bay = some b → r.queue (.bay b) = []) →
              z.state = .idle ∧ z.job = none ∧ (y.endSent = true → z.tx = y.tx))) ∧
          (y.state = .alert → z = { y with
            job := none, started := false, endSent := false, stall := none
            alert := y.alert.map fun a => { a with failover := if a.failover = .taken then .taken else .none }
            tx := if y.endSent then y.tx else { y.tx with held := y.tx.held ++ [.jobEnd .complete] } }))

/-- STALL_TIMER_EXPIRY (R53, R89): a STALLED job becomes cut-pending while sheets are in flight; with none it is HELD
for its stall's reason with CUT, and its line is free of it. -/
def Obligations.StallTimerCutsTheJob : Prop :=
  ∀ (s : State) (l : LineId) (j : JobId) (x : Job) (reason : StallReason), (s.part.room.line l).stall ≠ none →
    (s.part.room.line l).job = some j → s.part.room.job j = some x → x.state = .stalled →
    x.stallReason = some reason → (s.part.room.line l).state = .busy →
    ((s.part.room.line l).window ≠ [] →
      exec (.stallTimerExpiry l) s = .next (s.modRoom fun r =>
        (r.setLine l { r.line l with stall := none }).setJob j (some { x with cutPending := true }))) ∧
    ((s.part.room.line l).window = [] → (∀ target, j ∉ s.part.room.queue target) →
      ∃ t x', exec (.stallTimerExpiry l) s = .next t ∧ t.part.link = s.part.link ∧ t.part.dram = s.part.dram ∧
        t.part.settings = s.part.settings ∧ t.part.room.job j = some x' ∧ x'.state = .held ∧
        x'.holdReason = some (if reason = .budget then .budget else .data) ∧ x'.bound = none ∧
        x'.cutPending = false ∧ t.part.room.marked (.job j) (.cut (if reason = .budget then .budget else .data)) ∧
        (t.part.room.line l).job ≠ some j ∧ t.part.room.accounts = s.part.room.accounts)

/-! ## Charges and accounts (06_charge_computation.md, 07_accounts_budgets_and_period_close.md) -/

/-- The four stages of the page charge (R102 to R104), with their ranges and roundings. SET-RATE (R99): an unlisted cell
is refused, a value above 65,535 is clamped, and the one cell takes both values at once; the reply gives the cell
before and as written. -/
def Obligations.RatesAndChargesAreExact : Prop :=
  ((∀ coverage ksur, coverage ≤ 100 → ksur ≤ 65535 →
     100 * surcharge coverage ksur ≤ coverage * ksur + 50 ∧ coverage * ksur + 50 < 100 * surcharge coverage ksur + 100 ∧
     surcharge coverage ksur ≤ ksur ∧ surcharge 0 ksur = 0 ∧ surcharge 100 ksur = ksur ∧
     ∀ lower, lower ≤ coverage → surcharge lower ksur ≤ surcharge coverage ksur) ∧
   (∀ (rate : Rate) (d : Descriptor), rate.base ≤ 65535 → rate.ksur ≤ 65535 → d.front ≤ 100 →
     (∀ back, d.back = some back → back ≤ 100) →
     (d.sides = 1 → rawCost rate d = rate.base + surcharge d.front rate.ksur) ∧
     (∀ back, d.sides = 2 → d.back = some back →
       rawCost rate d = (rate.base + surcharge d.front rate.ksur) + (rate.base + surcharge back rate.ksur)) ∧
     sideCost rate d.front = rate.base + surcharge d.front rate.ksur ∧ sideCost rate d.front ≤ 131070 ∧
     rawCost rate d ≤ 262140 ∧
     ∀ factor, factor ≤ 1023 →
       256 * charge rate factor d ≤ rawCost rate d * factor + 128 ∧
       rawCost rate d * factor + 128 < 256 * charge rate factor d + 256 ∧
       charge rate 256 d = rawCost rate d ∧ charge rate 0 d = 0 ∧ charge rate factor d ≤ 1047536) ∧
   (∀ media colour, charge { base := 65535, ksur := 65535 } 1023
     { media := media, colour := colour, front := 100, back := some 100 } = 1047536)) ∧
  (∀ (s : State) (tag : Byte) (rest : List ReqFrame) (media colour base ksur : Nat), media < 256 → colour < 256 →
     base < 4294967296 → ksur < 4294967296 →
     Taken s .setRate tag (Wire.field 1 media ++ Wire.field 1 colour ++ Wire.field 4 base ++ Wire.field 4 ksur) rest →
     (16 ≤ media ∨ 3 ≤ colour → exec .setRate s = .next (s.declined .setRate tag rest .badArg .none)) ∧
     ∀ (m : Fin 16) (c : ColourMode), m.val = media → c.code.val = colour →
       ∃ room, exec .setRate s = .next (s.answered .setRate tag rest room
           (if 65535 < base ∨ 65535 < ksur then .clamped else .ok)
           (.rate (s.part.room.meter.rate m c) { base := min 65535 base, ksur := min 65535 ksur })) ∧
         room = { s.part.room with meter := { s.part.room.meter with rates := room.meter.rates } } ∧
         ∀ m' c', room.meter.rate m' c' = if m' = m ∧ c' = c then
           { base := min 65535 base, ksur := min 65535 ksur } else s.part.room.meter.rate m' c')

/-- ACCOUNT-SET (R112, R113): BAD_ARG, then the move of an unmoved account, then OVER_LIMIT; an ABSENT account is created,
and an ACTIVE one takes the four fields, has its watermark evaluated, and is handed to the Dispatch Unit. The model's
choice (log entry 38): the reply's record is taken after the evaluation of the watermark and before the hand-over. -/
def Obligations.AccountSetCreatesOrRewrites : Prop :=
  ∀ (s : State) (tag : Byte) (rest : List ReqFrame) (a : AccountSetArgs), a.fitsFields →
    Taken s .accountSet tag a.payload rest →
    (512 ≤ a.account ∨ 3 ≤ a.mode → exec .accountSet s = .next (s.declined .accountSet tag rest .badArg .none)) ∧
    ∀ (i : AcctId) (mode : Mode), i.val = a.account →
      (a.mode = 0 ∧ mode = .unlimited ∨ a.mode = 1 ∧ mode = .soft ∨ a.mode = 2 ∧ mode = .hard) →
      let status : Status := if 100 < a.watermark ∨ 1023 < a.factor then .clamped else .ok
      let watermark := min 100 a.watermark
      let factor := min 1023 a.factor
      (s.part.room.account i = none →
        let made : Account :=
          { mode := mode, limit := a.limit, watermark := watermark, factor := factor, consumed := 0, held := 0,
            mono := 0, colour := 0, sheets := 0, epoch := s.part.room.meter.epoch, crossed := false,
            saturated := false, refs := 0 }
        exec .accountSet s = .next (s.answered .accountSet tag rest
          ((s.part.room.setAccount i (some made)).setSnapshot i none) status
          (.account { account := i, fields := made, available := a.limit,
                      level := a.limit * watermark / 100 }))) ∧
      (∀ old, s.part.room.account i = some old →
        ∃ (room : Room) (x : Account), room.account i = some x ∧
          ((s.part.room.meter.scan = none ∨ old.epoch = s.part.room.meter.epoch) → room = s.part.room) ∧
          (s.part.room.meter.scan ≠ none → old.epoch ≠ s.part.room.meter.epoch →
            room = s.part.room.moveAccount i old) ∧
          (mode = .hard → a.limit < x.consumed + x.held →
            exec .accountSet s = .next (s.answered .accountSet tag rest room .overLimit .none)) ∧
          (mode ≠ .hard ∨ x.consumed + x.held ≤ a.limit →
            ∃ (written : Room) (y : Account),
              y = { x with mode := mode, limit := a.limit, watermark := watermark, factor := factor,
                           crossed := y.crossed } ∧
              written = (room.setAccount i (some
                { x with mode := mode, limit := a.limit, watermark := watermark, factor := factor })).evalWatermark i ∧
              written.account i = some y ∧
              exec .accountSet s = .next (s.answered .accountSet tag rest (written.reexamine i) status
                (.account { account := i, fields := y, available := a.limit - (x.consumed + x.held),
                            level := a.limit * watermark / 100 }))))

/-- ACCOUNT-READ (R114): the LIVE view moves nothing; the SNAPSHOT view moves an unmoved account first. ACCOUNT-DELETE
(R115, R181): the refusals; otherwise the account is ABSENT, its key is gone, and its snapshot, which holds the closed
period of an account moved for it, is kept. The model's choice (log entry 18): a deletion refused with BUSY moves
nothing. -/
def Obligations.AccountsAreReadAndDeleted : Prop :=
  (∀ (s : State) (tag : Byte) (rest : List ReqFrame) (account view : Nat), account < 65536 → view < 256 →
     Taken s .accountRead tag (Wire.field 2 account ++ Wire.field 1 view) rest →
     (512 ≤ account ∨ 2 ≤ view → exec .accountRead s = .next (s.declined .accountRead tag rest .badArg .none)) ∧
     ∀ i : AcctId, i.val = account →
       (view = 0 → s.part.room.account i = none →
         exec .accountRead s = .next (s.declined .accountRead tag rest .notFound .none)) ∧
       (∀ x, view = 0 → s.part.room.account i = some x →
         exec .accountRead s = .next (s.declined .accountRead tag rest .ok
           (.account { account := i, fields := x, available := x.limit - (x.consumed + x.held),
                       level := x.limit * x.watermark / 100 }))) ∧
       (view = 1 → (∀ x, s.part.room.account i = some x → s.part.room.meter.scan = none ∨
           x.epoch = s.part.room.meter.epoch) →
         exec .accountRead s = .next (s.declined .accountRead tag rest .ok
           (.snapshot i (s.part.room.snapshot i)))) ∧
       (∀ x, view = 1 → s.part.room.account i = some x → s.part.room.meter.scan ≠ none →
         x.epoch ≠ s.part.room.meter.epoch →
         exec .accountRead s = .next (s.answered .accountRead tag rest (s.part.room.moveAccount i x) .ok
           (.snapshot i (some { epoch := x.epoch, consumed := x.consumed, mono := x.mono, colour := x.colour,
                                sheets := x.sheets, saturated := x.saturated }))))) ∧
  (∀ (s : State) (tag : Byte) (rest : List ReqFrame) (account : Nat), account < 65536 →
     Taken s .accountDelete tag (Wire.field 2 account) rest →
     (512 ≤ account → exec .accountDelete s = .next (s.declined .accountDelete tag rest .badArg .none)) ∧
     ∀ i : AcctId, i.val = account →
       (s.part.room.account i = none →
         exec .accountDelete s = .next (s.declined .accountDelete tag rest .notFound .none)) ∧
       (∀ x, s.part.room.account i = some x → 0 < x.held ∨ 0 < x.refs →
         exec .accountDelete s = .next (s.declined .accountDelete tag rest .busy .none)) ∧
       (∀ x, s.part.room.account i = some x → x.held = 0 → x.refs = 0 →
         ∃ room, exec .accountDelete s = .next (s.answered .accountDelete tag rest room .ok .none) ∧
           room.account i = none ∧ (∀ k ∈ room.attn, k.src ≠ .account i) ∧
           ((s.part.room.meter.scan = none ∨ x.epoch = s.part.room.meter.epoch) →
             room = (s.part.room.setAccount i none).dropKey (.account i)) ∧
           (s.part.room.meter.scan ≠ none → x.epoch ≠ s.part.room.meter.epoch →
             room.snapshot i = some { epoch := x.epoch, consumed := x.consumed, mono := x.mono, colour := x.colour,
                                      sheets := x.sheets, saturated := x.saturated })))

/-- SET-CLOSE (R122, R121): unlisted codes are refused; otherwise the three settings are written, the interval clamped to
1 to 1,440, and the interval timer runs from then on exactly under INTERVAL in RUNNING. R123, R124: CLOSE-PERIOD, a
matching edge of SHIFT in LINE mode and the end of the interval start a close when none is in flight; in flight, the
request is refused with BUSY, and the other two leave CLOSE_MISSED. An edge in UNCONFIGURED moves the filtered level
alone (R167, R169). -/
def Obligations.ClosesAreSetAndStarted : Prop :=
  (∀ (s : State) (tag : Byte) (rest : List ReqFrame) (mode edge interval : Nat), mode < 256 → edge < 256 →
     interval < 65536 →
     Taken s .setClose tag (Wire.field 1 mode ++ Wire.field 1 edge ++ Wire.field 2 interval) rest →
     (3 ≤ mode ∨ 4 ≤ edge → exec .setClose s = .next (s.declined .setClose tag rest .badArg .none)) ∧
     ∀ (m : CloseMode) (e : EdgeMode),
       (mode = 0 ∧ m = .manual ∨ mode = 1 ∧ m = .line ∨ mode = 2 ∧ m = .interval) →
       (edge = 0 ∧ e = .none ∨ edge = 1 ∧ e = .rising ∨ edge = 2 ∧ e = .falling ∨ edge = 3 ∧ e = .both) →
       let i := max 1 (min 1440 interval)
       exec .setClose s = .next (s.answered .setClose tag rest
         { s.part.room with meter := { s.part.room.meter with
             closeMode := m, edge := e, interval := i
             timer := if s.part.link.phase = .running ∧ m = .interval then some (60000 * i) else none } }
         (if i = interval then .ok else .clamped) (.closeSettings m e i))) ∧
  (∀ (s : State) (tag : Byte) (rest : List ReqFrame), Taken s .closePeriod tag [] rest →
    (s.part.room.meter.scan ≠ none → exec .closePeriod s =
      .next (s.declined .closePeriod tag rest .busy .none)) ∧
    (s.part.room.meter.scan = none → exec .closePeriod s =
      .next (s.answered .closePeriod tag rest
        { s.part.room with meter := { s.part.room.meter with
            epoch := s.part.room.meter.epoch + 1, scan := some 0
            timer := if s.part.room.meter.closeMode = .interval then some (60000 * s.part.room.meter.interval)
              else s.part.room.meter.timer } } .ok
        (.closeStarted (s.part.room.meter.epoch + 1) s.part.room.meter.epoch)))) ∧
  (∀ (s : State) (rising : Bool), s.part.link.phase = .running → s.part.room.floor.shift.level = !rising →
    let seen := fun room : Room => { s with part := { s.part with
      pins := { s.part.pins with shift := rising }
      room := { room with floor := { room.floor with shift := { level := rising, run := 0 } } } } }
    let matching := s.part.room.meter.closeMode = .line ∧
      (s.part.room.meter.edge = .both ∨ s.part.room.meter.edge = .rising ∧ rising = true ∨
        s.part.room.meter.edge = .falling ∧ rising = false)
    (¬matching → exec (.shiftEdge rising) s = .next (seen s.part.room)) ∧
    (matching → s.part.room.meter.scan = none → exec (.shiftEdge rising) s = .next (seen
      { s.part.room with meter := { s.part.room.meter with epoch := s.part.room.meter.epoch + 1, scan := some 0 } })) ∧
    (matching → s.part.room.meter.scan ≠ none → exec (.shiftEdge rising) s = .next (seen
      (s.part.room.mark .device (.closeMissed .shift s.part.room.meter.epoch))))) ∧
  (∀ s : State, s.part.room.meter.timer ≠ none →
    let timer := some (60000 * s.part.room.meter.interval)
    (s.part.room.meter.scan = none → exec .intervalExpiry s = .next (s.modRoom fun r =>
      { r with meter := { r.meter with epoch := r.meter.epoch + 1, scan := some 0, timer := timer } })) ∧
    (s.part.room.meter.scan ≠ none → exec .intervalExpiry s = .next (s.modRoom fun r =>
      { r with meter := { r.meter with timer := timer } }.mark .device (.closeMissed .interval r.meter.epoch)))) ∧
  (∀ (s : State) (tag : Byte) (rest : List ReqFrame), Asked s .closePeriod tag [] rest →
    s.part.link.phase = .unconfigured →
    exec .closePeriod s = .next (s.declined .closePeriod tag rest .notRunning .none)) ∧
  (∀ (s : State) (rising : Bool), s.part.link.phase = .unconfigured → s.part.room.floor.shift.level = !rising →
    exec (.shiftEdge rising) s = .next { s with part := { s.part with
      pins := { s.part.pins with shift := rising }
      room := { s.part.room with floor := { s.part.room.floor with shift := { level := rising, run := 0 } } } } })

/-- R125 and R127: a tick of the scan takes 16 accounts: an unmoved one gives its tallies to its snapshot and starts
the new period, with its jobs re-examined, so that held may only rise; a moved one is left as it is, money and all, an
ABSENT one's old snapshot is emptied; past A511 the close completes with CLOSE_DONE. -/
def Obligations.TheScanMovesSixteenAccounts : Prop :=
  ∀ (s : State) (pos : Nat), s.part.room.meter.scan = some pos →
    ∃ t, exec .closeScanTick s = .next t ∧ t.part.link = s.part.link ∧ t.part.dram = s.part.dram ∧
      t.pending = s.pending ∧
      t.part.room.meter = { s.part.room.meter with scan := if pos + 16 < 512 then some (pos + 16) else none } ∧
      (512 ≤ pos + 16 → t.part.room.marked .device (.closeDone s.part.room.meter.epoch)) ∧
      ∀ a : AcctId,
        let taken := pos ≤ a.val ∧ a.val < pos + 16
        (∀ x, s.part.room.account a = some x → taken → x.epoch ≠ s.part.room.meter.epoch →
          t.part.room.snapshot a = some { epoch := x.epoch, consumed := x.consumed, mono := x.mono,
                                          colour := x.colour, sheets := x.sheets, saturated := x.saturated } ∧
          ∃ x', t.part.room.account a = some x' ∧
            x' = { x with consumed := 0, mono := 0, colour := 0, sheets := 0, saturated := false,
                          epoch := s.part.room.meter.epoch, crossed := x'.crossed, held := x'.held } ∧
            x.held ≤ x'.held ∧
            (x'.crossed = true ↔ x.mode ≠ .unlimited ∧ x.limit - x'.held < x.limit * x.watermark / 100) ∧
            ((∀ l j y, (s.part.room.line l).job = some j → s.part.room.job j = some y → y.state = .stalled →
                y.stallReason = some .budget → y.account ≠ a) → x'.held = x.held)) ∧
        (∀ x, s.part.room.account a = some x → ¬(taken ∧ x.epoch ≠ s.part.room.meter.epoch) →
          t.part.room.snapshot a = s.part.room.snapshot a ∧ t.part.room.account a = some x) ∧
        (s.part.room.account a = none → t.part.room.account a = none ∧
          t.part.room.snapshot a = if taken then
            (s.part.room.snapshot a).filter fun n => n.epoch = s.part.room.meter.epoch - 1
          else s.part.room.snapshot a)

/-- R120: an evaluation of the watermark sets the crossed flag with its mark as available falls below the level,
clears it at the level, clears it in UNLIMITED, and touches nothing else. R117 and R107: a confirmation lowers held,
and raises consumed, one kind of impressions by the sides and sheets by one, each held at its top with SATURATED, on
an account that no close has left unmoved. R126: an account that a close in flight has left unmoved is moved first,
and the confirmation is then that of the moved account: the old totals stand in its snapshot under the old epoch, and
the charge, the impressions and the sheet fall into the new period, from 0. DEDUCED, log entry 31: SATURATED names the
totals that would have passed their top, and not one that just reaches it. -/
def Obligations.MoneyIsConfirmedAndWatched : Prop :=
  (∀ (r : Room) (a : AcctId) (x : Account), r.account a = some x →
     let available := x.limit - (x.consumed + x.held)
     let level := x.limit * x.watermark / 100
     let r' := r.evalWatermark a
     r'.account a = some { x with crossed := x.mode ≠ .unlimited && decide (available < level) } ∧
       (∀ b, b ≠ a → r'.account b = r.account b) ∧
       (x.mode ≠ .unlimited → available < level → x.crossed = false →
         r' = (r.setAccount a (some { x with crossed := true })).mark (.account a) (.watermark available)) ∧
       (x.mode = .unlimited ∨ level ≤ available ∨ x.crossed = true → r' = { r with accounts := r'.accounts }) ∧
       (x.watermark = 0 → r'.account a = some { x with crossed := false })) ∧
  (∀ (r : Room) (e : Entry) (x : Account), r.account e.account = some x →
     (r.meter.scan = none ∨ x.epoch = r.meter.epoch) →
     let top := 4294967295
     let sides := if e.desc.back = none then 1 else 2
     let mono := if e.desc.colour = .mono then x.mono + sides else x.mono
     let colour := if e.desc.colour = .mono then x.colour else x.colour + sides
     let capped := top < x.consumed + e.charge ∨ top < mono ∨ top < colour ∨ top < x.sheets + 1
     ∃ x' : Account, (r.meterConfirm e).account e.account = some x' ∧
       x' = { x with
         held := x.held - e.charge
         consumed := min top (x.consumed + e.charge)
         mono := min top mono
         colour := min top colour
         sheets := min top (x.sheets + 1)
         saturated := x'.saturated
         crossed := x'.crossed } ∧
       (x'.saturated = true ↔ x.saturated = true ∨ capped) ∧
       (x.saturated = false → capped → ∃ totals, (r.meterConfirm e).marked (.account e.account) (.saturated totals) ∧
         (Total.consumed ∈ totals ↔ top < x.consumed + e.charge) ∧ (Total.mono ∈ totals ↔ top < mono) ∧
         (Total.colour ∈ totals ↔ top < colour) ∧ (Total.sheets ∈ totals ↔ top < x.sheets + 1)) ∧
       (x'.crossed = true ↔ x.mode ≠ .unlimited ∧
         x'.limit - (x'.consumed + x'.held) < x'.limit * x'.watermark / 100) ∧
       (∀ a, a ≠ e.account → (r.meterConfirm e).account a = r.account a) ∧
       r.meterConfirm e = { r with accounts := (r.meterConfirm e).accounts, attn := (r.meterConfirm e).attn }) ∧
  (∀ (r : Room) (e : Entry) (x : Account), r.account e.account = some x →
     r.meter.scan ≠ none → x.epoch ≠ r.meter.epoch →
     let top := 4294967295
     let sides := if e.desc.back = none then 1 else 2
     let moved := r.moveAccount e.account x
     let t := r.meterConfirm e
     t = moved.meterConfirm e ∧ t.meter = r.meter ∧
       t.snapshot e.account = some { epoch := x.epoch, consumed := x.consumed, mono := x.mono, colour := x.colour,
                                     sheets := x.sheets, saturated := x.saturated } ∧
       ∃ m x', moved.account e.account = some m ∧ t.account e.account = some x' ∧
         m = { x with consumed := 0, mono := 0, colour := 0, sheets := 0, saturated := false, epoch := r.meter.epoch,
                      held := m.held, crossed := m.crossed } ∧
         x.held ≤ m.held ∧
         ((∀ l j y, (r.line l).job = some j → r.job j = some y → y.state = .stalled → y.stallReason = some .budget →
             y.account ≠ e.account) → m.held = x.held) ∧
         x' = { m with
           held := m.held - e.charge
           consumed := min top e.charge
           mono := if e.desc.colour = .mono then sides else 0
           colour := if e.desc.colour = .mono then 0 else sides
           sheets := 1
           saturated := decide (top < e.charge)
           crossed := x'.crossed })

/-! ## Alerts and the floor (09_alerts_and_escalation.md, 10_beacons_bell_and_floor_inputs.md) -/

/-- ALERT-QUERY (R160) reports one line's record with its job, or all lines for FFh; ALERT-ACK (R148) acknowledges the
record, stops its escalation timer and has the selections and the bell made afresh, changes nothing on a record already
acknowledged, and is refused with NOT_RUNNING in UNCONFIGURED; SET-ESCALATION (R147) writes a profile with its clamps and
gives it before and as written; each refuses what its rule refuses. The model's choice (log entry 41): for FFh, a line with
no open record is reported as not acknowledged. -/
def Obligations.AlertRequestsAnswer : Prop :=
  (∀ (s : State) (tag : Byte) (rest : List ReqFrame) (line : Nat), line < 256 →
     Taken s .alertQuery tag (Wire.field 1 line) rest →
     (24 ≤ line → line ≠ 0xFF → exec .alertQuery s = .next (s.declined .alertQuery tag rest .badArg .none)) ∧
     (line = 0xFF → ∃ all, exec .alertQuery s = .next (s.declined .alertQuery tag rest .ok (.alerts all)) ∧
       all = (List.finRange 24).map fun l =>
         match (s.part.room.line l).alert with
         | some a => { isOpen := true, level := some a.level, acked := a.acked, highest := highestKind a.conds }
         | none => { isOpen := false, level := none, acked := false, highest := none }) ∧
     ∀ l : LineId, l.val = line →
       exec .alertQuery s = .next (s.declined .alertQuery tag rest .ok
         (.alert { line := l, state := (s.part.room.line l).state, record := (s.part.room.line l).alert,
                   ms := s.part.room.ms
                   job := (s.part.room.line l).job.bind fun j =>
                     (s.part.room.job j).map fun x => (j, x.state) }))) ∧
  (∀ (s : State) (tag : Byte) (rest : List ReqFrame) (line : Nat), line < 256 →
     Taken s .alertAck tag (Wire.field 1 line) rest →
     (24 ≤ line → exec .alertAck s = .next (s.declined .alertAck tag rest .badArg .none)) ∧
     ∀ l : LineId, l.val = line →
       ((s.part.room.line l).alert = none →
         exec .alertAck s = .next (s.declined .alertAck tag rest .notFound .none)) ∧
       ∀ a, (s.part.room.line l).alert = some a →
         exec .alertAck s = .next (s.answered .alertAck tag rest
           (if a.acked then s.part.room else (s.part.room.setLine l { s.part.room.line l with
             alert := some { a with acked := true, timer := none } }).refreshFloor) .ok
           (.acknowledged a.level (a.conds.map Cond.kind)))) ∧
  (∀ (s : State) (tag : Byte) (payload : List Byte) (rest : List ReqFrame), Asked s .alertAck tag payload rest →
     s.part.link.phase = .unconfigured →
     exec .alertAck s = .next (s.declined .alertAck tag rest .notRunning .none)) ∧
  (∀ (s : State) (tag : Byte) (rest : List ReqFrame) (kind t12 t23 failover : Nat), kind < 256 → t12 < 65536 →
     t23 < 65536 → failover < 65536 →
     Taken s .setEscalation tag (Wire.field 1 kind ++ Wire.field 2 t12 ++ Wire.field 2 t23 ++ Wire.field 2 failover)
       rest →
     (5 ≤ kind → exec .setEscalation s = .next (s.declined .setEscalation tag rest .badArg .none)) ∧
     ∀ k : CondKind,
       (kind = 0 ∧ k = .jam ∨ kind = 1 ∧ k = .coverOpen ∨ kind = 2 ∧ k = .mediaOut ∨ kind = 3 ∧ k = .noAnswer ∨
         kind = 4 ∧ k = .linkDown) →
       let written : Profile :=
         { t12 := max 1 (min 3600 t12), t23 := max 1 (min 3600 t23), failover := min 3600 failover }
       exec .setEscalation s = .next (s.answered .setEscalation tag rest
         { s.part.room with profiles := s.part.room.profiles.set k.rank.val written k.rank.isLt }
         (if written.t12 = t12 ∧ written.t23 = t23 ∧ written.failover = failover then .ok else .clamped)
         (.profile (s.part.room.profiles.get k.rank) written)))

/-- R146: at the end of a step the level rises by one with ALERT_RAISED, the next step runs by the profile of the
highest-ranked kind, and none runs at level 3. R156 and R157: at the end of the failover delay an empty window lets
the SUSPENDED job go, back to its bay's queue with SPLIT, or to HELD for HOST under a pending hold; with sheets still in
flight the failover waits as DUE. The check that every removal of entries ends in (Room.failoverIfDue): a failover that is
DUE is taken in the same way once the window is empty, with the job still bound and SUSPENDED, and otherwise nothing
changes. -/
def Obligations.EscalationAndFailover : Prop :=
  (∀ (s : State) (l : LineId) (a : Alert) (k : CondKind), (s.part.room.line l).alert = some a → a.timer ≠ none →
     highestKind a.conds = some k →
     let raised : Alert :=
       { a with
         level := if a.level = .one then .two else .three
         timer := if a.level = .one then some (1000 * (s.part.room.profiles.get k.rank).t23) else none }
     exec (.escalationExpiry l) s = .next (s.modRoom fun r =>
       ((r.setLine l { r.line l with alert := some raised }).mark (.line l) (.alertRaised raised.level)).refreshFloor)) ∧
  (∀ (s : State) (l : LineId) (a : Alert) (left : Nat), (s.part.room.line l).alert = some a →
     a.failover = .running left →
     ((s.part.room.line l).window ≠ [] → exec (.failoverExpiry l) s = .next (s.modRoom fun r =>
       r.setLine l { r.line l with alert := some { a with failover := .due } })) ∧
     (∀ j x, (s.part.room.line l).window = [] → (s.part.room.line l).job = some j → s.part.room.job j = some x →
       x.state = .suspended →
       let freed := s.part.room.setLine l
         { s.part.room.line l with
           alert := some { a with failover := .taken }, job := none, started := false, endSent := false, stall := none }
       (x.holdPending = true → exec (.failoverExpiry l) s = .next (s.modRoom fun _ => freed.setJob j (some
         { x with state := .held, bound := none, holdReason := some .host, holdPending := false, stallReason := none,
                  cutPending := false }))) ∧
       (x.holdPending = false → exec (.failoverExpiry l) s = .next (s.modRoom fun _ =>
         (freed.mark (.job j) (.split x.pos)).queueJob j x)))) ∧
  (∀ (r : Room) (l : LineId),
     ((∀ a, (r.line l).alert = some a → a.failover ≠ .due) ∨ (r.line l).window ≠ [] ∨
       (∀ j x, (r.line l).job = some j → r.job j = some x → x.state ≠ .suspended) → r.failoverIfDue l = r) ∧
     ∀ a j x, (r.line l).alert = some a → a.failover = .due → (r.line l).window = [] → (r.line l).job = some j →
       r.job j = some x → x.state = .suspended →
       let freed := r.setLine l
         { r.line l with
           alert := some { a with failover := .taken }, job := none, started := false, endSent := false, stall := none }
       r.failoverIfDue l = if x.holdPending then freed.setJob j (some
           { x with state := .held, bound := none, holdReason := some .host, holdPending := false, stallReason := none,
                    cutPending := false })
         else (freed.mark (.job j) (.split x.pos)).queueJob j x)

/-- R164 and R166: making the floor afresh gives every bay the selection its open records call for, and the bell rings
exactly when some open record on any line is at level 3 and not acknowledged; nothing but the floor changes. R165: a
generator running OFF loads a selection other than OFF at once, at position 0; any other generator goes on untouched, and a
stopped one stays stopped. R168 and R149: a press of a bay's button in RUNNING acknowledges every open record of the bay's
member lines, and then, the model's choice (log entry 42), makes the floor afresh once; in UNCONFIGURED, and on a bay with
no members, only the filtered level falls; a release only raises it. R165: at the end of a period the generator loads its
bay's selection at position 0; at the on-time the pin turns dark. The row of a beacon says that the time has passed (log
entry 3). -/
def Obligations.FloorButtonsAndBeacons : Prop :=
  (∀ r : Room, r.refreshFloor = { r with floor := { r.floor with
       beacons := r.refreshFloor.floor.beacons, bell := r.refreshFloor.floor.bell } } ∧
     (r.refreshFloor.floor.bell = true ↔
       ∃ l a, (r.line l).alert = some a ∧ a.level = .three ∧ a.acked = false) ∧
     ∀ b : BayId,
       let opened := fun a : Alert => ∃ l, (r.line l).bay = some b ∧ (r.line l).alert = some a
       let sel := (r.refreshFloor.floor.beacons.get b).sel
       (∀ a, opened a → a.acked = false → (∀ a', opened a' → a'.acked = false → a'.level.number ≤ a.level.number) →
         sel = r.floor.levelMap.get a.level.index) ∧
       ((∃ a, opened a) → (∀ a, opened a → a.acked = true) → sel = .acked) ∧
       ((∀ a, ¬opened a) → sel = .off) ∧
       (r.refreshFloor.floor.beacons.get b).gen = (r.floor.beacons.get b).gen.map fun g =>
         if g.running = .off ∧ sel ≠ .off then
           { running := sel, period := (r.floor.patterns.get sel.code).period
             onTime := (r.floor.patterns.get sel.code).onTime, pos := 0 }
         else g) ∧
  ((∀ (s : State) (b : BayId), s.part.link.phase = .running → (s.part.room.floor.ack.get b).level = true →
     ∃ room, exec (.ackPress b) s = .next { s with part := { s.part with
         pins := { s.part.pins with ack := s.part.pins.ack.set b.val false b.isLt }, room := room } } ∧
       (room.floor.ack.get b) = { level := false, run := 0 } ∧
       (∀ c, c ≠ b → room.floor.ack.get c = s.part.room.floor.ack.get c) ∧ room.attn = s.part.room.attn ∧
       room.jobs = s.part.room.jobs ∧ room.accounts = s.part.room.accounts ∧
       (s.part.room.floorSound → room.floorSound) ∧
       ((∃ l, (s.part.room.line l).bay = some b) → ∃ acknowledged : Room, acknowledged = { s.part.room with
           lines := acknowledged.lines, floor := { s.part.room.floor with ack := room.floor.ack } } ∧
         room = acknowledged.refreshFloor) ∧
       ∀ l, room.line l = if (s.part.room.line l).bay = some b then
         { s.part.room.line l with alert := (s.part.room.line l).alert.map fun a =>
             { a with acked := true, timer := if a.acked then a.timer else none } }
         else s.part.room.line l) ∧
   (∀ (s : State) (b : BayId), s.part.link.phase = .unconfigured ∨
       s.part.link.phase = .running ∧ (∀ l, (s.part.room.line l).bay ≠ some b) →
     (s.part.room.floor.ack.get b).level = true →
     exec (.ackPress b) s = .next { s with part := { s.part with
       pins := { s.part.pins with ack := s.part.pins.ack.set b.val false b.isLt }
       room := { s.part.room with floor := { s.part.room.floor with
         ack := s.part.room.floor.ack.set b.val { level := false, run := 0 } b.isLt } } } }) ∧
   (∀ (s : State) (b : BayId), s.part.link.phase.answers = true → (s.part.room.floor.ack.get b).level = false →
     exec (.ackRelease b) s = .next { s with part := { s.part with
       pins := { s.part.pins with ack := s.part.pins.ack.set b.val true b.isLt }
       room := { s.part.room with floor := { s.part.room.floor with
         ack := s.part.room.floor.ack.set b.val { level := true, run := 0 } b.isLt } } } }) ∧
   (∀ (s : State) (b : BayId) (g : Generator), (s.part.room.floor.beacons.get b).gen = some g →
     let k := s.part.room.floor.beacons.get b
     let entry := s.part.room.floor.patterns.get k.sel.code
     let loaded : Beacon :=
       { sel := k.sel, gen := some { running := k.sel, period := entry.period, onTime := entry.onTime, pos := 0 } }
     exec (.beaconPeriodEnd b) s = .next (s.modRoom fun r => { r with floor :=
       { r.floor with beacons := r.floor.beacons.set b.val loaded b.isLt } }) ∧
     (loaded.lit = true ↔ 0 < entry.onTime)) ∧
   (∀ (s : State) (b : BayId) (g : Generator), (s.part.room.floor.beacons.get b).gen = some g → g.pos < g.onTime →
     g.onTime < g.period →
     let k := s.part.room.floor.beacons.get b
     let dark : Beacon := { k with gen := some { g with pos := g.onTime } }
     k.lit = true ∧ dark.lit = false ∧
       exec (.beaconOnTimeEnd b) s = .next (s.modRoom fun r => { r with floor :=
         { r.floor with beacons := r.floor.beacons.set b.val dark b.isLt } })))

/-! ## What a printer sends (04_press_lines.md, 05_the_press_link_protocol.md, 08_sheet_counting_and_discrepancy.md) -/

/-- R65, R74 to R77: every frame a printer may send, sent character by character in the line's format, is assembled,
checked and queued as it was sent, whatever parity mode the line uses, and nothing else changes but the filtered level,
which is mark after a stop bit. A damaged frame is discarded without a trace: one whose END does not hold the check of its
kind and body, one of a kind that is not an inbound kind, one whose body has not the length of its kind, and one in which a
field holds a code that R77 does not list (an EXIT count of 0 or above 15, a HELLO colour above 2, duplex above 1 or window
of 0, a STATUS ready above 1, a HALT kind above 1 or a MEDIA_OUT tray above 7, a CLEARED kind above 2). -/
def Obligations.PrinterFramesAreTakenOrDiscarded : Prop :=
  (∀ (s : State) (l : LineId) (f : InFrame), f.legal = true → (s.part.room.line l).state.live = true →
     (s.part.room.line l).rx.cond = .hunting → (s.part.room.line l).rx.asm = .hunting →
     (s.part.room.line l).rx.queue.length < 4 →
     State.runs (sentFrame l (s.part.room.line l).fmt f.code f.body) s = .next (s.modRoom fun r =>
       r.setLine l { r.line l with rx :=
         { (r.line l).rx with
           cond := .hunting
           filter := if (r.line l).rx.filter.level then (r.line l).rx.filter else { level := true, run := 0 }
           asm := .hunting, queue := (r.line l).rx.queue ++ [f.asTaken] } })) ∧
  (∀ (s : State) (l : LineId) (kind check : Byte) (body : List Byte),
     let wrongLength := kind = 0x40#8 ∧ body.length ≠ 11 ∨ kind = 0x41#8 ∧ body.length ≠ 1 ∨
       kind = 0x42#8 ∧ body.length ≠ 5 ∨ kind = 0x43#8 ∧ body.length ≠ 1 ∨ kind = 0x44#8 ∧ body.length ≠ 2 ∨
       kind = 0x45#8 ∧ body.length ≠ 1
     let above := fun (place top : Nat) => ∃ code, body[place]? = some code ∧ top < code.toNat
     let unlisted := kind = 0x40#8 ∧ (above 6 2 ∨ above 7 1 ∨ body[10]? = some 0#8) ∨ kind = 0x41#8 ∧ above 0 1 ∨
       kind = 0x42#8 ∧ (body[0]? = some 0#8 ∨ above 0 15) ∨
       kind = 0x44#8 ∧ (above 0 1 ∨ body[0]? = some 0#8 ∧ above 1 7) ∨ kind = 0x45#8 ∧ above 0 2
     check ≠ Wire.crc8 kind body ∨ kind ∉ [0x40#8, 0x41#8, 0x42#8, 0x43#8, 0x44#8, 0x45#8] ∨ wrongLength ∨ unlisted →
     (s.part.room.line l).state.live = true →
     (s.part.room.line l).rx.cond = .hunting → (s.part.room.line l).rx.asm = .hunting →
     let fmt := (s.part.room.line l).fmt
     State.runs (sentChar l fmt kind true :: (body.map fun b => sentChar l fmt b false) ++ [sentChar l fmt check true])
         s = .next (s.modRoom fun r => r.setLine l { r.line l with rx :=
       { (r.line l).rx with
         cond := .hunting
         filter := if (r.line l).rx.filter.level then (r.line l).rx.filter else { level := true, run := 0 }
         asm := .hunting } }))

/-- R65, R66 and R68: on a live line a parity or framing error poisons the character and sets its mark, for every condition of
the assembler and every marker, and the assembler takes the character with its poison as R75 lays down; a frame any
character of which is poisoned, the last one included, is discarded; a good one that finds the queue full sets OVERRUN; a
break, in every live state, sets its own mark, empties the assembler and has the receiver wait for mark, the queue staying as
it was; LINE_ERRORS is set when a mark goes from clear to set. What the link-down event of a break does on an attached line is
said by LossesSuspendTheJob and LossesOnIdleAndAlertedLines; in DETACHED it does nothing. R64 and R75: a
receiver that waits for mark hunts again once the filtered level is at mark, an edge taken as noise delivers nothing, and
the gap inside a frame discards what it held. -/
def Obligations.CharactersAreCheckedAndMarked : Prop :=
  (∀ (s : State) (l : LineId) (value : Byte) (marker parity stop : Bool),
    (s.part.room.line l).rx.cond.receives = true → (s.part.room.line l).state.live = true →
    ¬(value = 0#8 ∧ marker = false ∧ stop = false ∧ (parity = false ∨ (s.part.room.line l).fmt.parity = .none)) →
    let y := s.part.room.line l
    let parityBad := y.fmt.parity = .odd ∧ (onesOf value marker + parity.toNat) % 2 = 0 ∨
      y.fmt.parity = .even ∧ (onesOf value marker + parity.toNat) % 2 = 1
    let poisoned := decide parityBad || !stop
    ∃ t, exec (.characterReceived l value marker parity stop) s = .next t ∧
      t.part.link = s.part.link ∧ t.part.dram = s.part.dram ∧ t.part.room.jobs = s.part.room.jobs ∧
      (let z := t.part.room.line l
       z = { y with errs := z.errs, rx := z.rx } ∧
       z.errs = { y.errs with
         parity := y.errs.parity || decide parityBad, framing := y.errs.framing || !stop, overrun := z.errs.overrun } ∧
       z.rx = { y.rx with
         cond := if stop then .hunting else .waitMark
         filter := if y.rx.filter.level = stop then y.rx.filter else { level := stop, run := 0 }
         asm := match y.rx.asm, marker with
           | .hunting, true => .inFrame value [] poisoned
           | .hunting, false => .hunting
           | .inFrame kind body bad, false =>
             if body.length = 260 then .skipping else .inFrame kind (body ++ [value]) (bad || poisoned)
           | .inFrame _ _ _, true => .hunting
           | .skipping, true => .hunting
           | .skipping, false => .skipping
         queue := z.rx.queue } ∧
       (marker = false ∨ poisoned = true ∨ (∀ kind body, y.rx.asm ≠ .inFrame kind body false) →
         z.rx.queue = y.rx.queue ∧ z.errs.overrun = y.errs.overrun) ∧
       (∀ f : InFrame, f.legal = true → marker = true → poisoned = false → y.rx.asm = .inFrame f.code f.body false →
         value = Wire.crc8 f.code f.body →
         z.rx.queue = (if y.rx.queue.length < 4 then y.rx.queue ++ [f.asTaken] else y.rx.queue) ∧
           z.errs.overrun = (y.errs.overrun || decide (4 ≤ y.rx.queue.length))) ∧
       (z.errs ≠ y.errs → t.part.room.marked (.line l) .lineErrors) ∧
       (z.errs = y.errs → t.part.room.attn = s.part.room.attn))) ∧
  (∀ (s : State) (l : LineId) (parity : Bool),
    (s.part.room.line l).rx.cond.receives = true → (s.part.room.line l).state.live = true →
    parity = false ∨ (s.part.room.line l).fmt.parity = .none →
    let y := s.part.room.line l
    let heard : Line := { y with
      errs := { y.errs with brk := true }
      rx := { y.rx with
        cond := .waitMark, asm := .hunting, filter := if y.rx.filter.level then { level := false, run := 0 } else y.rx.filter } }
    ∃ t, exec (.characterReceived l 0#8 false parity false) s = .next t ∧ t.part.link = s.part.link ∧
      t.part.dram = s.part.dram ∧ t.part.settings = s.part.settings ∧
      (t.part.room.line l).errs = heard.errs ∧ (t.part.room.line l).rx = heard.rx ∧
      (y.errs.brk = false → t.part.room.marked (.line l) .lineErrors) ∧
      (y.state = .detached → t = s.modRoom fun r =>
        if y.errs.brk then r.setLine l heard else (r.setLine l heard).mark (.line l) .lineErrors)) ∧
  (∀ (s : State) (l : LineId),
    let y := s.part.room.line l
    let hunts := State.modRoom s fun r => r.setLine l { y with rx := { y.rx with
      cond := .hunting, filter := if y.rx.filter.level then y.rx.filter else { level := true, run := 0 } } }
    (y.rx.cond = .waitMark → exec (.huntResumes l) s = .next hunts) ∧
    (y.rx.cond.receives = true → exec (.edgeTakenAsNoise l) s = .next hunts)) ∧
  (∀ (s : State) (l : LineId), (s.part.room.line l).rx.cond ≠ .stopped → (s.part.room.line l).state.live = true →
    ((s.part.room.line l).rx.queue.length < 4 →
      exec (.gapTimeout l) s = .next (s.modRoom fun r => r.setLine l { r.line l with
        rx := { (r.line l).rx with asm := .hunting } })) ∧
    (4 ≤ (s.part.room.line l).rx.queue.length → exec (.gapTimeout l) s = .next s))

/-- HELLO on a DETACHED or IDLE line (R80, R81, R132): the attachment record, the window depth, the baseline and the
ATTACHED mark are set; where no queue holds a job for the line, it is IDLE with WELCOME begun and its timers loaded;
that the poll timer is loaded on entry to IDLE is DEDUCED, log entry 11. HELLO in ALERT with nothing in flight (R82,
R153, R95): the printer attaches again and the record closes behind a RESYNC; the line is IDLE with no job bound, and
RECOVERING with one, whose JOB-START is to come again. HELLO in ALERT of a line that holds a job, with sound bindings,
whatever is still in flight: the window is lost, its money released, the page's read ended with its deferred release,
and the job stands at the oldest lost instance; then as before. A failover that is DUE is taken at that loss, ahead of
the attach (DEDUCED, log entry 14): the job goes back to its bay's queue with SPLIT, or is HELD for HOST, and the line
goes on without it behind a RESYNC. In ALERT as elsewhere the HELLO resets the sheet count and loads the silence
timer, and WELCOME, with the line number and the effective window, is sent at once, or behind a POLL that was due, the
RESYNC behind it and a new job's JOB-START last. The model's choice (log entry 23): the line's turn rises by one on
the way to RECOVERING, and a RESYNC carries the turn. HELLO in BUSY or RECOVERING is a link-down event:
LossesSuspendTheJob. -/
def Obligations.HelloAttachesThePrinter : Prop :=
  (∀ (s : State) (l : LineId) (model media : BitVec 16) (sheets : BitVec 32) (colour : ColourLevel) (duplex : Bool)
     (window : Nat) (more : List InFrame),
     (s.part.room.line l).rx.queue = .hello model sheets colour duplex media window :: more →
     (s.part.room.line l).state = .detached ∨ (s.part.room.line l).state = .idle →
     let y := s.part.room.line l
     let depth := min y.proto.depth window
     ∃ t, exec (.hello l) s = .next t ∧ t.part.link = s.part.link ∧ t.part.dram = s.part.dram ∧
       t.part.settings = s.part.settings ∧
       t.part.room.accounts = s.part.room.accounts ∧ t.part.room.marked (.line l) (.attached depth) ∧
       (let z := t.part.room.line l
        (z.state = .idle ∨ z.state = .busy) ∧
        z.att = some { model := model, colour := colour, duplex := duplex, media := media, printerWindow := window,
                       window := depth, ready := none } ∧
        z.count = { y.count with baseline := sheets, last := sheets, tally := 0, latch := none } ∧
        z.rx = { y.rx with queue := more } ∧ z.silence = some y.proto.silence) ∧
       ((s.part.room.queue (.line l) = [] → (∀ b, y.bay = some b → s.part.room.queue (.bay b) = []) →
         y.tx.hold = none → y.tx.sending = [] → y.tx.due = [] → y.tx.pollDue = false →
         let z := t.part.room.line l
         z.state = .idle ∧ z.job = none ∧ z.window = y.window ∧
           z.poll = some (y.poll.getD y.proto.poll) ∧
           z.tx.hold = some { value := 0x10#8, marker := true, role := .plain } ∧
           z.tx.sending = [{ value := BitVec.ofNat 8 l.val, marker := false, role := .plain },
             { value := BitVec.ofNat 8 depth, marker := false, role := .plain },
             { value := Wire.crc8 0x10#8 [BitVec.ofNat 8 l.val, BitVec.ofNat 8 depth], marker := true,
               role := .plain }] ∧
           t.part.room.jobs = s.part.room.jobs))) ∧
  (∀ (s : State) (l : LineId) (model media : BitVec 16) (sheets : BitVec 32) (colour : ColourLevel) (duplex : Bool)
     (window : Nat) (more : List InFrame) (a : Alert),
     (s.part.room.line l).rx.queue = .hello model sheets colour duplex media window :: more →
     (s.part.room.line l).state = .alert → (s.part.room.line l).alert = some a →
     (s.part.room.line l).window = [] → (s.part.room.line l).page = none → a.failover ≠ .due →
     let y := s.part.room.line l
     let depth := min y.proto.depth window
     let greeted := fun (z : Line) (turn : Nat) (after : List OutFrame) =>
       (y.tx.pollDue = false → z.tx.hold = some { value := 0x10#8, marker := true, role := .plain } ∧
         z.tx.sending = [{ value := BitVec.ofNat 8 l.val, marker := false, role := .plain },
           { value := BitVec.ofNat 8 depth, marker := false, role := .plain },
           { value := Wire.crc8 0x10#8 [BitVec.ofNat 8 l.val, BitVec.ofNat 8 depth], marker := true,
             role := .plain }] ∧
         z.tx.due = .resync turn :: after) ∧
       (y.tx.pollDue = true → z.tx.hold = some { value := 0x17#8, marker := true, role := .pollBegin } ∧
         z.tx.sending = [{ value := Wire.crc8 0x17#8 [], marker := true, role := .plain }] ∧
         z.tx.due = .welcome l depth :: .resync turn :: after)
     ∃ t, exec (.hello l) s = .next t ∧ t.part.link = s.part.link ∧ t.part.dram = s.part.dram ∧
       t.part.settings = s.part.settings ∧ (t.part.room.line l).alert = none ∧
       (t.part.room.line l).att = some
         { model := model, colour := colour, duplex := duplex, media := media, printerWindow := window,
           window := depth, ready := none } ∧
       (t.part.room.line l).count = { y.count with baseline := sheets, last := sheets, tally := 0, latch := none } ∧
       (t.part.room.line l).silence = some y.proto.silence ∧
       (∃ after, greeted (t.part.room.line l) (if y.job = none then y.turn else y.turn + 1) after ∧
         (y.job ≠ none ∨ (t.part.room.line l).job = none → after = [])) ∧
       t.part.room.marked (.line l) (.alertClosed (s.part.room.ms - a.opened) .cleared) ∧
       t.part.room.marked (.line l) (.attached depth) ∧
       t.part.room.accounts = s.part.room.accounts ∧
       (y.job = none → s.part.room.queue (.line l) = [] →
         (∀ b, y.bay = some b → s.part.room.queue (.bay b) = []) →
         (t.part.room.line l).state = .idle ∧ (t.part.room.line l).job = none ∧ t.part.room.jobs = s.part.room.jobs) ∧
       (∀ j x, y.job = some j → s.part.room.job j = some x →
         (t.part.room.line l).state = .recovering ∧ (t.part.room.line l).job = some j ∧
           (t.part.room.line l).started = false ∧ (t.part.room.line l).turn = y.turn + 1 ∧
           t.part.room.job j = some (if x.state = .suspended then { x with state := .active } else x) ∧
           ∀ k, k ≠ j → t.part.room.job k = s.part.room.job k)) ∧
  (∀ (s : State) (l : LineId) (model media : BitVec 16) (sheets : BitVec 32) (colour : ColourLevel) (duplex : Bool)
     (window : Nat) (more : List InFrame) (a : Alert) (j : JobId) (x : Job),
     (s.part.room.line l).rx.queue = .hello model sheets colour duplex media window :: more →
     (s.part.room.line l).state = .alert → (s.part.room.line l).alert = some a → s.part.room.bindingsSound →
     (s.part.room.line l).job = some j → s.part.room.job j = some x → x.state = .suspended ∨ x.state = .aborted →
     (∀ e ∈ (s.part.room.line l).window, e.job = j) →
     let y := s.part.room.line l
     let depth := min y.proto.depth window
     let pos := match y.window with
       | e :: _ => if x.state = .aborted then x.pos else .at e.copy e.page
       | [] => x.pos
     let freed := match y.page with
       | some pg => if pg.deferred then [pg.entry] else []
       | none => []
     let greeted := fun (z : Line) (turn : Nat) (after : List OutFrame) =>
       (y.tx.pollDue = false → z.tx.hold = some { value := 0x10#8, marker := true, role := .plain } ∧
         z.tx.sending = [{ value := BitVec.ofNat 8 l.val, marker := false, role := .plain },
           { value := BitVec.ofNat 8 depth, marker := false, role := .plain },
           { value := Wire.crc8 0x10#8 [BitVec.ofNat 8 l.val, BitVec.ofNat 8 depth], marker := true,
             role := .plain }] ∧
         z.tx.due = .resync turn :: after) ∧
       (y.tx.pollDue = true → z.tx.hold = some { value := 0x17#8, marker := true, role := .pollBegin } ∧
         z.tx.sending = [{ value := Wire.crc8 0x17#8 [], marker := true, role := .plain }] ∧
         z.tx.due = .welcome l depth :: .resync turn :: after)
     ∃ t, exec (.hello l) s = .next t ∧ t.part.link = s.part.link ∧ t.part.dram = s.part.dram ∧
       t.part.settings = s.part.settings ∧
       (let z := t.part.room.line l
        z.alert = none ∧ z.window = [] ∧ z.page = none ∧ z.started = false ∧
          z.att = some { model := model, colour := colour, duplex := duplex, media := media, printerWindow := window,
                         window := depth, ready := none } ∧
          z.count = { y.count with baseline := sheets, last := sheets, tally := 0, latch := none } ∧
          z.silence = some y.proto.silence) ∧
       t.part.room.marked (.line l) (.alertClosed (s.part.room.ms - a.opened) .cleared) ∧
       t.part.room.marked (.line l) (.attached depth) ∧
       t.part.room.freeEntries = s.part.room.freeEntries + freed.length ∧
       t.part.room.store = freed.foldl (fun store e => store.release e.chain) s.part.room.store ∧
       (∀ b acct, s.part.room.account b = some acct →
         (∀ k i z, (s.part.room.line k).job = some i → s.part.room.job i = some z → z.state = .stalled →
           z.account ≠ b) →
         ∃ acct', t.part.room.account b = some acct' ∧ acct' = { acct with
           held := acct.held - ((y.window.filter fun e => e.account = b).map Entry.charge).sum
           crossed := acct'.crossed }) ∧
       (a.failover ≠ .due ∨ x.state = .aborted →
         (t.part.room.line l).state = .recovering ∧ (t.part.room.line l).job = some j ∧
           (t.part.room.line l).turn = y.turn + 1 ∧ greeted (t.part.room.line l) (y.turn + 1) [] ∧
           t.part.room.job j = some
             { x with state := if x.state = .suspended then .active else x.state, pos := pos }) ∧
       (a.failover = .due → x.state = .suspended →
         ((t.part.room.line l).state = .idle ∨ (t.part.room.line l).state = .busy) ∧
           (∃ after, greeted (t.part.room.line l) y.turn after ∧
             ((t.part.room.line l).job = none → after = [])) ∧
           (x.holdPending = true → t.part.room.job j = some
             { x with state := .held, bound := none, holdReason := some .host, holdPending := false,
                      stallReason := none, cutPending := false, pos := pos }) ∧
           (x.holdPending = false → t.part.room.marked (.job j) (.split pos) ∧
             ∃ x', t.part.room.job j = some x' ∧ x'.pos = pos ∧ x'.confirmed = x.confirmed ∧ x'.pages = x.pages ∧
               (x'.state = .queued ∧ x'.bound = none ∨ x'.state = .active ∧ x'.bound ≠ none))))

/-- STATUS (R80, R84, R152): on an attached line the ready flag is recorded and the silence timer reloads, unless LINK_DOWN
keeps it stopped; in ALERT NO_ANSWER leaves the record first, which closes when nothing is left in it; on a line that is not
attached the frame is discarded, and so is a JAM, HALT, EXIT or CLEARED (R80). CLEARED with no open record only reloads the
silence timer. POLL_EXPIRY (R85): a POLL is due, and with nothing being sent its BEGIN is offered at once.
DEDUCED: the poll timer runs on from the poll interval at its expiry (log entry 11), and a POLL stays due until its BEGIN
starts (log entry 10). -/
def Obligations.StatusAndPolls : Prop :=
  (∀ (s : State) (l : LineId) (ready : Bool) (more : List InFrame),
     (s.part.room.line l).rx.queue = .status ready :: more →
     let y := s.part.room.line l
     let told := y.att.map fun t => { t with ready := some ready }
     (y.state = .idle ∨ y.state = .busy ∨ y.state = .recovering → y.alert = none →
       exec (.status l) s = .next (s.modRoom fun r => r.setLine l { y with
         rx := { y.rx with queue := more }
         att := told
         silence := some y.proto.silence })) ∧
     (∀ a, y.state = .alert → y.alert = some a →
       let left := a.conds.filter fun c => c.kind ≠ .noAnswer
       (left ≠ [] → exec (.status l) s = .next (s.modRoom fun r => r.setLine l { y with
         rx := { y.rx with queue := more }
         att := told
         alert := some { a with conds := left }
         silence := if (left.any fun c => c.kind == .linkDown) then none else some y.proto.silence
         poll := some (y.poll.getD y.proto.poll) })) ∧
       (left = [] → ∃ t, exec (.status l) s = .next t ∧ (t.part.room.line l).alert = none ∧
         (t.part.room.line l).att = told ∧ (t.part.room.line l).state ≠ .alert ∧
         t.part.room.marked (.line l) (.alertClosed (s.part.room.ms - a.opened) .cleared))) ∧
     (y.state.attached = false →
       exec (.status l) s = .next (s.modRoom fun r => r.setLine l { y with rx := { y.rx with queue := more } }))) ∧
  (∀ (s : State) (l : LineId) (f : InFrame) (more : List InFrame) (c : Instr),
     (s.part.room.line l).rx.queue = f :: more → (s.part.room.line l).state.attached = false →
     c = .jam l ∧ (∃ location, f = .jam location) ∨ c = .halt l ∧ (f = .coverOpen ∨ ∃ tray, f = .mediaOut tray) ∨
       c = .exit l ∧ (∃ n sheets, f = .exit n sheets) ∨ c = .cleared l ∧ (∃ kind, f = .cleared kind) →
     exec c s = .next (s.modRoom fun r => r.setLine l
       { r.line l with rx := { (r.line l).rx with queue := more } })) ∧
  (∀ (s : State) (l : LineId) (kind : CondKind) (more : List InFrame),
     let y := s.part.room.line l
     y.rx.queue = .cleared kind :: more → y.state = .idle ∨ y.state = .busy ∨ y.state = .recovering → y.alert = none →
     exec (.cleared l) s = .next (s.modRoom fun r => r.setLine l
       { y with rx := { y.rx with queue := more }, silence := some y.proto.silence })) ∧
  (∀ (s : State) (l : LineId), (s.part.room.line l).poll ≠ none →
     let y := s.part.room.line l
     (∀ c, y.tx.hold = some c → exec (.pollExpiry l) s = .next (s.modRoom fun r => r.setLine l
       { y with poll := some y.proto.poll, tx := { y.tx with pollDue := true } })) ∧
     (y.tx.hold = none → y.tx.sending = [] → exec (.pollExpiry l) s = .next (s.modRoom fun r => r.setLine l
       { y with
         poll := some y.proto.poll
         tx := { y.tx with
           pollDue := true, hold := some { value := 0x17#8, marker := true, role := .pollBegin }
           sending := [{ value := 0x65#8, marker := true, role := .plain }] } })))

/-- EXIT on an attached line, in whichever state (R80, R90, R133, R135 to R137): L is recorded, the oldest closed
entries leave the window, one for each sheet as far as they go, each adds one to the line's tally, and a difference
above the tolerance is latched and marked once. R117, R107: each entry removed moves its charge from held to consumed
and adds its impressions by its colour mode and one sheet, each total held at its top; here on an account that no
close in flight has left unmoved, where nothing else changes but held, by what the line then opens, and the two flags.
A line that is not BUSY opens nothing where its record, if it has one, stays open. What the removals bring about
follows in the same taking, and the next room is stated with the operations that do it: NO_ANSWER leaves the record,
each entry removed, oldest first, is confirmed (MoneyIsConfirmedAndWatched, CompletionFreesTheJobAndItsLine: the page
of a last copy, a job DONE), then the check, a failover that is DUE (EscalationAndFailover), and the line goes on
(TheLineGoesOn: the next instance, a cancel, a cut or a hold that leaves); a record left with no condition closes as
in ClearedRemovesItsCondition. With no closed entry to confirm nothing but L and the check is left of it. That the
check stands after the confirming and before the failover is the model's choice, log entry 28. -/
def Obligations.ExitConfirmsTheOldestSheets : Prop :=
  ∀ (s : State) (l : LineId) (n : Nat) (sheets : BitVec 32) (more : List InFrame),
    (s.part.room.line l).rx.queue = .exit n sheets :: more → (s.part.room.line l).state.attached = true →
    let y := s.part.room.line l
    let gone := min n (y.window.takeWhile fun e => e.closed).length
    let d := sheets - y.count.baseline + y.count.offset - (y.count.tally + BitVec.ofNat 32 gone)
    let found := y.count.source = .exit ∧ y.count.tolerance < d.toInt.natAbs ∧ y.count.latch = none
    ∃ t, exec (.exit l) s = .next t ∧ t.part.link = s.part.link ∧ t.part.dram = s.part.dram ∧
      t.part.settings = s.part.settings ∧
      (t.part.room.line l).count = { y.count with
        last := sheets, tally := y.count.tally + BitVec.ofNat 32 gone
        latch := if found then some d else y.count.latch } ∧
      (found → t.part.room.marked (.line l) (.discrepancy d)) ∧
      (∃ opened, (t.part.room.line l).window = y.window.drop gone ++ opened ∧
        (y.state ≠ .busy → (∀ a, y.alert = some a → ∃ c ∈ a.conds, c.kind ≠ .noAnswer) → opened = []) ∧
        ∀ a acct, s.part.room.account a = some acct →
          s.part.room.meter.scan = none ∨ acct.epoch = s.part.room.meter.epoch →
          let mine := (y.window.take gone).filter fun e => e.account = a
          let charged := (mine.map Entry.charge).sum
          let impressions := fun mono : Bool => (mine.map fun e =>
            if decide (e.desc.colour = .mono) = mono then (if e.desc.back = none then 1 else 2) else 0).sum
          let total := fun old added : Nat => if mine = [] then old else min 4294967295 (old + added)
          ∃ acct', t.part.room.account a = some acct' ∧ acct' = { acct with
            held := acct.held - charged + ((opened.filter fun e => e.account = a).map Entry.charge).sum
            consumed := total acct.consumed charged
            mono := total acct.mono (impressions true)
            colour := total acct.colour (impressions false)
            sheets := total acct.sheets mine.length
            saturated := acct'.saturated, crossed := acct'.crossed }) ∧
      (∀ j x, s.part.room.job j = some x → ∃ x', t.part.room.job j = some x' ∧
        x'.confirmed = x.confirmed + ((y.window.take gone).filter fun e => e.job = j).length) ∧
      (let room := s.part.room
       let watched := fun z : Line => { z with
         silence := if z.watches then some (z.silence.getD z.proto.silence) else none
         poll := if z.state.attached then some (z.poll.getD z.proto.poll) else none }
       let taken : Line := { y with rx := { y.rx with queue := more } }
       let answered : Line := match y.alert with
         | some a => watched { taken with alert := some { a with conds := a.conds.filter fun c => c.kind ≠ .noAnswer } }
         | none => taken
       let told := room.setLine l { answered with count := { y.count with last := sheets } }
       let confirmed := (y.window.take gone).foldl (fun r e => ((r.setLine l { r.line l with
         window := (r.line l).window.tail, count := { (r.line l).count with tally := (r.line l).count.tally + 1 }
         }).meterConfirm e).jobConfirm e) told
       let checked := if y.count.source = .exit ∧ y.count.tolerance < d.toInt.natAbs ∧ y.count.latch = none then
           (confirmed.setLine l { confirmed.line l with count := { (confirmed.line l).count with latch := some d }
             }).mark (.line l) (.discrepancy d)
         else confirmed
       let after := ((checked.failoverIfDue l).proceed l).closeIfEmpty l
       t = s.modRoom fun _ => after.setLine l { after.line l with
         silence := if (after.line l).watches then some y.proto.silence else (after.line l).silence }) ∧
      (∀ a, y.alert = some a → (∀ c ∈ a.conds, c.kind = .noAnswer) → (t.part.room.line l).alert = none ∧
        t.part.room.marked (.line l) (.alertClosed (s.part.room.ms - a.opened) .cleared)) ∧
      (gone = 0 → y.state = .idle ∨ y.state = .recovering → y.alert = none → y.job = none ∨ y.state = .recovering →
        t.part.room.jobs = s.part.room.jobs ∧ t.part.room.accounts = s.part.room.accounts ∧
          t.part.room.line l = { y with
            rx := { y.rx with queue := more }
            count := (t.part.room.line l).count
            silence := some y.proto.silence })

/-- On a BUSY or RECOVERING line, JAM, HALT with COVER_OPEN, the end of the silence timeout, and the two link-down events of
R80 and R82, a break and a HELLO (R80, R84, R92, R142, R143): the window is lost, the job is SUSPENDED with its position at the
oldest lost instance, an ABORTED one staying as it is, and a record opens with its mark. While the Dispatch Unit re-examines
the accounts whose money is released, the line that takes the loss opens nothing: DEDUCED, log entry 13. -/
def Obligations.LossesSuspendTheJob : Prop :=
  ∀ (s : State) (l : LineId) (j : JobId) (x : Job) (c : Instr) (kind : CondKind) (detail : Detail)
    (more : List InFrame),
    (s.part.room.line l).state = .busy ∨ (s.part.room.line l).state = .recovering →
    (s.part.room.line l).alert = none → (s.part.room.line l).job = some j →
    s.part.room.job j = some x → x.state = .active ∨ x.state = .stalled ∨ x.state = .aborted →
    (∀ e ∈ (s.part.room.line l).window, e.job = j) →
    (∀ k, k ≠ l → (s.part.room.line k).job ≠ some j) →
    (c = .jam l ∧ kind = .jam ∧ (∃ location, (s.part.room.line l).rx.queue = .jam location :: more ∧
        detail = .jam [location] 0) ∨
      c = .halt l ∧ kind = .coverOpen ∧ (s.part.room.line l).rx.queue = .coverOpen :: more ∧ detail = .plain ∨
      c = .silenceExpiry l ∧ kind = .noAnswer ∧ (s.part.room.line l).silence ≠ none ∧ detail = .plain ∨
      c = .characterReceived l 0#8 false false false ∧ kind = .linkDown ∧
        (s.part.room.line l).rx.cond.receives = true ∧ detail = .plain ∨
      c = .hello l ∧ kind = .linkDown ∧ (∃ model sheets colour duplex media window,
        (s.part.room.line l).rx.queue = .hello model sheets colour duplex media window :: more) ∧ detail = .plain) →
    ∃ t x' a, exec c s = .next t ∧ t.part.link = s.part.link ∧ t.part.dram = s.part.dram ∧
      t.part.settings = s.part.settings ∧
      (let z := t.part.room.line l
       z.state = .alert ∧ z.window = [] ∧ z.page = none ∧ z.job = some j ∧ z.started = false ∧ z.alert = some a ∧
         z.stall = none ∧ z.tx.due = [] ∧ z.att = (s.part.room.line l).att ∧
         ((s.part.room.line l).tx.pollDue = false → z.tx.hold = none ∧ z.tx.sending = []) ∧
         z.count = (s.part.room.line l).count ∧
         (z.silence = none ↔ kind = .noAnswer ∨ kind = .linkDown)) ∧
      a.conds = [{ kind := kind, detail := detail, first := s.part.room.ms, repeats := 0 }] ∧ a.level = .one ∧
      a.acked = false ∧ a.timer = some (1000 * (s.part.room.profiles.get kind.rank).t12) ∧ a.loss = true ∧
      a.opened = s.part.room.ms ∧
      a.failover = (if x.state ≠ .aborted ∧ x.target.isBay = true ∧ x.splitAllowed = true ∧
          0 < (s.part.room.profiles.get kind.rank).failover then
        .running (1000 * (s.part.room.profiles.get kind.rank).failover) else .none) ∧
      t.part.room.job j = some x' ∧ (x.state = .aborted → x' = x) ∧ x'.bound = x.bound ∧ x'.confirmed = x.confirmed ∧
      (x.state ≠ .aborted → x'.state = .suspended ∧ x'.stallReason = none ∧ x'.cutPending = false ∧
        x'.holdPending = x.holdPending ∧
        ((s.part.room.line l).window = [] → x'.pos = x.pos) ∧
        ∀ e, (s.part.room.line l).window.head? = some e → x'.pos = .at e.copy e.page) ∧
      t.part.room.marked (.line l) (.alertOpened kind detail)

/-- On an IDLE line, JAM, HALT with COVER_OPEN, the end of the silence timeout and a break open a record and change no job and no
account (R80, R84, R92, R142). In ALERT the same are a loss of what is still in flight (R92, R144, R145): the window is empty,
the SUSPENDED job stands at the oldest lost instance, an ABORTED one staying as it is, the condition is in the record, a loss
has occurred, and the record keeps its level and its opening time. R156, R157: with sound bindings, a failover that is DUE is
taken at that loss, from the oldest lost instance: the line stays in ALERT with no job and its failover TAKEN, and the job is
HELD for HOST under a pending hold, and otherwise, with SPLIT, QUEUED or bound to another line. -/
def Obligations.LossesOnIdleAndAlertedLines : Prop :=
  ∀ (s : State) (l : LineId) (c : Instr) (kind : CondKind) (detail : Detail) (more : List InFrame),
    (c = .jam l ∧ kind = .jam ∧ (∃ location, (s.part.room.line l).rx.queue = .jam location :: more ∧
        detail = .jam [location] 0) ∨
      c = .halt l ∧ kind = .coverOpen ∧ (s.part.room.line l).rx.queue = .coverOpen :: more ∧ detail = .plain ∨
      c = .silenceExpiry l ∧ kind = .noAnswer ∧ (s.part.room.line l).silence ≠ none ∧ detail = .plain ∨
      c = .characterReceived l 0#8 false false false ∧ kind = .linkDown ∧
        (s.part.room.line l).rx.cond.receives = true ∧ detail = .plain) →
    let y := s.part.room.line l
    ∃ t, exec c s = .next t ∧ t.part.link = s.part.link ∧ t.part.dram = s.part.dram ∧
      t.part.settings = s.part.settings ∧
      (y.state = .idle → y.alert = none → y.job = none → y.window = [] → y.page = none →
        t.part.room.jobs = s.part.room.jobs ∧ t.part.room.accounts = s.part.room.accounts ∧
        (∀ k, k ≠ l → t.part.room.line k = s.part.room.line k) ∧
        (let z := t.part.room.line l
         z.state = .alert ∧ z.window = [] ∧ z.job = none ∧ z.tx.due = [] ∧ z.att = y.att ∧ z.count = y.count ∧
           (z.silence = none ↔ kind = .noAnswer ∨ kind = .linkDown) ∧
           z.alert = some
             { conds := [{ kind := kind, detail := detail, first := s.part.room.ms, repeats := 0 }], level := .one
               acked := false, timer := some (1000 * (s.part.room.profiles.get kind.rank).t12), failover := .none
               loss := true, opened := s.part.room.ms }) ∧
        t.part.room.marked (.line l) (.alertOpened kind detail)) ∧
      (∀ j x a, y.state = .alert → y.alert = some a → y.job = some j → s.part.room.job j = some x →
        x.state = .suspended ∨ x.state = .aborted → (∀ e ∈ y.window, e.job = j) →
        (∀ k, k ≠ l → (s.part.room.line k).job ≠ some j) →
        a.failover ≠ .due ∨ x.state = .aborted ∨ s.part.room.bindingsSound →
        let z := t.part.room.line l
        let takes := a.failover = .due ∧ x.state = .suspended
        let pos := match y.window with
          | e :: _ => if x.state = .aborted then x.pos else .at e.copy e.page
          | [] => x.pos
        z.state = .alert ∧ z.window = [] ∧ z.page = none ∧ z.started = false ∧ z.tx.due = [] ∧ z.tx.held = [] ∧
        z.count = y.count ∧
        (∃ a', z.alert = some a' ∧ a'.has kind = true ∧ a'.loss = true ∧ a'.level = a.level ∧ a'.opened = a.opened ∧
          (takes → a'.failover = .taken)) ∧
        (¬takes → z.job = some j ∧ t.part.room.job j = some { x with pos := pos }) ∧
        (takes → z.job = none ∧
          (x.holdPending = true → t.part.room.job j = some
            { x with state := .held, bound := none, holdReason := some .host, holdPending := false, stallReason := none,
                     cutPending := false, pos := pos }) ∧
          (x.holdPending = false → t.part.room.marked (.job j) (.split pos) ∧
            ∃ x', t.part.room.job j = some x' ∧ x'.pos = pos ∧ x'.confirmed = x.confirmed ∧ x'.pages = x.pages ∧
              (x'.state = .queued ∧ x'.bound = none ∧ j ∈ t.part.room.queue x.target ∨
                x'.state = .active ∧ ∃ k, k ≠ l ∧ x'.bound = some k ∧ (t.part.room.line k).job = some j))))

/-- HALT with MEDIA_OUT (R93, R142, R143): a pause, not a loss. The window, the page opened and every account stay as
they are. On a BUSY or RECOVERING line the job is SUSPENDED, an ABORTED one staying as it is; on an IDLE line no job
changes. The frames due and not begun are held, but for POLL, WELCOME and the rest of a page whose PAGE-OPEN has been
begun (DEDUCED, log entry 30: R79 has the line send the rest of a frame or page begun). In RECOVERING the record
counts as a loss. R155: the failover timer runs from the opening, with MEDIA_OUT's delay where that is above 0, for a
job SUSPENDED here whose target is a bay and that may be split; not for an ABORTED job, nor with no job. -/
def Obligations.MediaOutPausesTheLine : Prop :=
  ∀ (s : State) (l : LineId) (tray : Nat) (more : List InFrame),
    (s.part.room.line l).rx.queue = .mediaOut tray :: more → (s.part.room.line l).alert = none →
    let y := s.part.room.line l
    let passes := fun f : OutFrame => match f with
      | .welcome _ _ | .data _ | .pageClose _ | .poll => true
      | .jobStart _ _ _ | .pageOpen _ _ _ | .jobEnd _ | .resync _ | .test _ => false
    ∃ t, exec (.halt l) s = .next t ∧ t.part.room.accounts = s.part.room.accounts ∧
      t.part.link = s.part.link ∧ t.part.dram = s.part.dram ∧ t.part.settings = s.part.settings ∧
      (∀ k, k ≠ l → t.part.room.line k = s.part.room.line k) ∧
      (y.state = .busy ∨ y.state = .recovering ∨ y.state = .idle → ∃ a,
        (let z := t.part.room.line l
         z.state = .alert ∧ z.window = y.window ∧ z.page = y.page ∧ z.job = y.job ∧ z.started = y.started ∧
           z.alert = some a ∧ z.tx.hold = y.tx.hold ∧ z.tx.sending = y.tx.sending ∧
           z.tx.due = y.tx.due.filter passes ∧ z.tx.held = y.tx.held ++ (y.tx.due.filter fun f => !passes f) ∧
           z.silence = some y.proto.silence) ∧
        a.conds = [{ kind := .mediaOut, detail := .tray tray, first := s.part.room.ms, repeats := 0 }] ∧
        a.loss = decide (y.state = .recovering) ∧ a.level = .one ∧ a.acked = false ∧ a.opened = s.part.room.ms ∧
        a.timer = some (1000 * (s.part.room.profiles.get CondKind.mediaOut.rank).t12) ∧
        t.part.room.marked (.line l) (.alertOpened .mediaOut (.tray tray)) ∧
        (y.job = none → t.part.room.jobs = s.part.room.jobs ∧ a.failover = .none) ∧
        ∀ j x, y.job = some j → s.part.room.job j = some x →
          (let delay := (s.part.room.profiles.get CondKind.mediaOut.rank).failover
           a.failover = if (x.state = .active ∨ x.state = .stalled ∨ x.state = .suspended) ∧ x.target.isBay = true ∧
               x.splitAllowed = true ∧ 0 < delay then .running (1000 * delay) else .none) ∧
          (∀ k, k ≠ j → t.part.room.job k = s.part.room.job k) ∧ (t.part.room.line l).stall = none ∧
          (x.state = .active ∨ x.state = .stalled →
            t.part.room.job j = some { x with state := .suspended, stallReason := none, cutPending := false }) ∧
          (x.state = .aborted → t.part.room.job j = some x))

/-- R141, R144 and R145: a condition that a frame brings to an open record. NO_ANSWER leaves the list first (R152). A kind
not in the list joins at its end, the record is no longer acknowledged, and an escalation step that stood still begins
afresh by the highest-ranked kind; a kind in the list keeps its entry, which takes the new detail and counts a repeat. The
level, the opening time and the marks stay, and a loss kind makes the record one of a loss. The window is empty here but
for MEDIA_OUT, which loses nothing. -/
def Obligations.ConditionsJoinTheOpenRecord : Prop :=
  ∀ (s : State) (l : LineId) (c : Instr) (kind : CondKind) (detail : Detail) (more : List InFrame) (a : Alert),
    (s.part.room.line l).state = .alert → (s.part.room.line l).alert = some a → a.failover ≠ .due ∨ kind = .mediaOut →
    (c = .jam l ∧ kind = .jam ∧ (∃ location, (s.part.room.line l).rx.queue = .jam location :: more ∧
        detail = .jam [location] 0) ∨
      c = .halt l ∧ kind = .coverOpen ∧ (s.part.room.line l).rx.queue = .coverOpen :: more ∧ detail = .plain ∨
      c = .halt l ∧ kind = .mediaOut ∧ (∃ tray, (s.part.room.line l).rx.queue = .mediaOut tray :: more ∧
        detail = .tray tray)) →
    kind = .mediaOut ∨ (s.part.room.line l).window = [] ∧ (s.part.room.line l).page = none →
    let y := s.part.room.line l
    let left := a.conds.filter fun c => c.kind ≠ .noAnswer
    let present := ∃ old ∈ left, old.kind = kind
    ∃ t a', exec c s = .next t ∧ t.part.link = s.part.link ∧ t.part.dram = s.part.dram ∧
      t.part.settings = s.part.settings ∧ t.part.room.jobs = s.part.room.jobs ∧
      t.part.room.accounts = s.part.room.accounts ∧ t.part.room.attn = s.part.room.attn ∧
      (t.part.room.line l).state = .alert ∧ (t.part.room.line l).window = y.window ∧
      (t.part.room.line l).job = y.job ∧ (t.part.room.line l).alert = some a' ∧
      a'.level = a.level ∧ a'.opened = a.opened ∧ a'.loss = (a.loss || decide (kind ≠ .mediaOut)) ∧
      (¬present →
        a'.conds = left ++ [{ kind := kind, detail := detail, first := s.part.room.ms, repeats := 0 }] ∧
        a'.acked = false ∧ (a.acked = false → a'.timer = a.timer) ∧
        (∀ k, a.acked = true → highestKind a'.conds = some k → a'.timer =
          match a.level with
          | .one => some (1000 * (s.part.room.profiles.get k.rank).t12)
          | .two => some (1000 * (s.part.room.profiles.get k.rank).t23)
          | .three => none) ∧
        (a.failover ≠ .none ∨ y.job = none → a'.failover = a.failover) ∧
        ∀ j x k, a.failover = .none → y.job = some j → s.part.room.job j = some x → highestKind a'.conds = some k →
          a'.failover = if x.state = .suspended ∧ x.target.isBay = true ∧ x.splitAllowed = true ∧
              0 < (s.part.room.profiles.get k.rank).failover then
            .running (1000 * (s.part.room.profiles.get k.rank).failover) else .none) ∧
      (present → a'.acked = a.acked ∧ a'.timer = a.timer ∧ a'.failover = a.failover ∧
        a'.conds.map Cond.kind = left.map Cond.kind ∧ (∀ old ∈ left, old.kind ≠ kind → old ∈ a'.conds) ∧
        ∀ old ∈ left, old.kind = kind → ∃ new ∈ a'.conds, new.kind = kind ∧ new.first = old.first ∧
          new.repeats = min 65535 (old.repeats + 1) ∧ (kind ≠ .jam → new.detail = detail) ∧
          ∀ locations dropped location, kind = .jam → old.detail = .jam locations dropped →
            detail = .jam [location] 0 → new.detail =
              if location ∈ locations then .jam locations dropped
              else if locations.length < 4 then .jam (locations ++ [location]) dropped
              else .jam locations (min 255 (dropped + 1)))

/-- CLEARED (R151, R150, R154, R95): the entry of its kind leaves the record; the last one closes it. After a loss with a job
bound, an ABORTED one too, the line is RECOVERING with a new RESYNC. After a pause the line is BUSY again with its window, and
the job is ACTIVE and goes on, or leaves with an empty window: ABORTED with its mark and JOB-END(ABORT), or with a pending
hold HELD for HOST with JOB-END(CUT). With no job bound the line is IDLE, or BUSY with the job it then takes. The held frames
follow those due, in their order, behind a RESYNC that the closing makes due and ahead of any later frame; on the way to
RECOVERING a held RESYNC or JOB-START is dropped. The first of them begins at once where nothing is being sent. The model's
choice (log entry 23): the line's turn rises by one on the way to RECOVERING, and the END of a RESYNC and of a JOB-START
carries the turn. -/
def Obligations.ClearedRemovesItsCondition : Prop :=
  ∀ (s : State) (l : LineId) (kind : CondKind) (more : List InFrame) (a : Alert),
    (s.part.room.line l).rx.queue = .cleared kind :: more → (s.part.room.line l).state = .alert →
    (s.part.room.line l).alert = some a →
    let y := s.part.room.line l
    let left := a.conds.filter fun c => c.kind ≠ .noAnswer ∧ c.kind ≠ kind
    ∃ t, exec (.cleared l) s = .next t ∧ t.part.link = s.part.link ∧ t.part.dram = s.part.dram ∧
      t.part.settings = s.part.settings ∧
      (left ≠ [] → (t.part.room.line l).state = .alert ∧
        (t.part.room.line l).alert = some { a with conds := left } ∧ t.part.room.attn = s.part.room.attn ∧
        t.part.room.jobs = s.part.room.jobs) ∧
      (left = [] → (t.part.room.line l).alert = none ∧
        t.part.room.marked (.line l) (.alertClosed (s.part.room.ms - a.opened) .cleared) ∧
        (let z := t.part.room.line l
         let fresh := fun f : OutFrame => match f with
           | .resync _ | .jobStart _ _ _ => true
           | _ => false
         let follow := fun frames : List OutFrame => z.tx.held = [] ∧
           (y.tx.hold ≠ none → z.tx.hold = y.tx.hold ∧ z.tx.sending = y.tx.sending) ∧
           (y.tx.hold ≠ none ∨ y.tx.sending ≠ [] ∨ y.tx.pollDue = true → z.tx.due = y.tx.due ++ frames) ∧
           (y.tx.hold = none → y.tx.sending = [] → y.tx.pollDue = false → ∀ f behind, y.tx.due ++ frames = f :: behind →
             z.tx.due = behind ∧ z.tx.hold.map TxChar.value = some f.code ∧
             z.tx.sending = (f.body.map fun b => TxChar.mk b false .plain) ++
               [{ value := Wire.crc8 f.code f.body, marker := true, role := f.endRole }])
         (∀ j x, y.job = some j → s.part.room.job j = some x → a.loss = true →
           z.state = .recovering ∧ z.started = false ∧ z.turn = y.turn + 1 ∧
           t.part.room.job j = some (if x.state = .suspended then { x with state := .active } else x) ∧
           follow (.resync (y.turn + 1) :: y.tx.held.filter fun f => !fresh f) ∧
           (y.tx.hold = none → y.tx.sending = [] → y.tx.due = [] → y.tx.pollDue = false →
             z.tx.hold = some { value := 0x16#8, marker := true, role := .plain } ∧
             z.tx.sending = [{ value := Wire.crc8 0x16#8 [], marker := true, role := .ends (.resync (y.turn + 1)) }])) ∧
         (∀ j x, y.job = some j → s.part.room.job j = some x → x.state = .suspended → a.loss = false →
           x.holdPending = false → x.cutPending = false →
           z.state = .busy ∧ z.job = some j ∧ z.started = y.started ∧
           (∃ later, follow (y.tx.held ++ later)) ∧ (∃ opened, z.window = y.window ++ opened) ∧
           (∃ x', t.part.room.job j = some x' ∧ (x'.state = .active ∨ x'.state = .stalled) ∧ x'.bound = x.bound ∧
             x'.confirmed = x.confirmed ∧ x'.pages = x.pages) ∧
           (y.started = false → z.window = y.window ∧ follow y.tx.held ∧
             t.part.room.job j = some { x with state := .active })) ∧
         (∀ j x, y.job = some j → s.part.room.job j = some x → x.state = .suspended → a.loss = false →
           x.holdPending = true → x.cutPending = false →
           (y.window ≠ [] → z.state = .busy ∧ z.job = some j ∧ z.window = y.window ∧
             (∃ later, follow (y.tx.held ++ later)) ∧ t.part.room.job j = some { x with state := .active }) ∧
           (y.window = [] → (∀ target, j ∉ s.part.room.queue target) →
             t.part.room.job j = some { x with state := .held, bound := none, holdReason := some .host,
                                               holdPending := false, stallReason := none, cutPending := false } ∧
             (∃ later, follow (y.tx.held ++ .jobEnd .cut :: later)) ∧ z.job ≠ some j ∧
             (z.state = .idle ∨ z.state = .busy))) ∧
         (∀ j x, y.job = some j → s.part.room.job j = some x → x.state = .aborted → a.loss = false →
           (y.window ≠ [] → z.state = .busy ∧ z.window = y.window ∧ follow y.tx.held ∧
             t.part.room.jobs = s.part.room.jobs) ∧
           (y.window = [] → (∀ target, j ∉ s.part.room.queue target) →
             t.part.room.job j = some { x with bound := none } ∧ t.part.room.marked (.job j) (.aborted x.confirmed) ∧
             (∃ later, follow (y.tx.held ++ .jobEnd .abort :: later)) ∧ z.job ≠ some j ∧
             (z.state = .idle ∨ z.state = .busy))) ∧
         (y.job = none →
           let settled := (if a.loss then [OutFrame.resync y.turn] else []) ++ y.tx.held
           z.state = .idle ∧ follow settled ∨
             z.state = .busy ∧ ∃ tag run, follow (settled ++ [.jobStart tag run (y.turn + 1)]))))

/-! ## What the part sends (R62, R74, R77, R78, R86 to R88, R94) -/

/-- CHARACTER_START (R62, R78, R85): with TAKE active the held character begins, the next of the frame is offered, and the
poll timer reloads; with TAKE inactive, or nothing held, only the level is recorded. R78: when the last character of a frame
has begun, the BEGIN of the next is offered, of a due POLL ahead of every frame not yet begun, else of the head of the
frames due. R32, R87 and R74: the page's next DATA, of up to 256 of its bytes through the cursor, is then due ahead of the
rest, and after the last byte PAGE-CLOSE with the page's length; a PAGE-OPEN begun sets the cursor to 0. R57, R62, R72: TX gives the character's start, data, marker,
parity and stop levels, and mark elsewhere. The model's own: the row says that the shift stage is free (log 9), a POLL
stays due until its BEGIN starts (log 10), the next start ends the gap after a loss (log 24), TAKE comes with the row
(log 29), the cursor advances by the whole piece at that moment (log 36), and a chain that names no address of the
DRAM is a fault. -/
def Obligations.CharactersLeaveUnderTake : Prop :=
  (∀ (s : State) (l : LineId) (c next : TxChar) (more : List TxChar), (s.part.room.line l).state.live = true →
    (s.part.room.line l).tx.hold = some c → (s.part.room.line l).tx.sending = next :: more →
    (∀ d, (s.part.room.line l).tx.shift = some d → d.role = .plain ∨ d.role = .pollBegin) →
    exec (.characterStart l true) s = .next (s.modRoom fun r =>
      let y := r.line l
      r.setLine l { y with
        poll := y.poll.map fun _ => y.proto.poll
        tx := { y.tx with
          take := true, hold := some next, sending := more, shift := some c, gapOwed := false,
          pollDue := y.tx.pollDue && c.role ≠ .pollBegin } })) ∧
  (∀ (s : State) (l : LineId) (take : Bool), (s.part.room.line l).state.live = true →
    take = false ∨ (s.part.room.line l).tx.hold = none →
    exec (.characterStart l take) s = .next (s.modRoom fun r => r.setLine l
      { r.line l with tx := { (r.line l).tx with take := take } })) ∧
  (∀ (s : State) (l : LineId) (c : TxChar),
     (s.part.room.line l).state.live = true → (s.part.room.line l).tx.hold = some c →
     (s.part.room.line l).tx.sending = [] →
     (∀ d, (s.part.room.line l).tx.shift = some d → d.role = .plain ∨ d.role = .pollBegin) →
     let y := s.part.room.line l
     let blocks := s.part.room.store.blocks
     let body := fun f : OutFrame => match f with
       | .data _ | .pageClose _ => true
       | _ => false
     let begins := fun (page : Option PageTx) (due : List OutFrame) => exec (.characterStart l true) s =
       .next (s.modRoom fun r => r.setLine l
         (let tx := { y.tx with take := true, shift := some c, gapOwed := false }
          let x : Line := { y with poll := y.poll.map fun _ => y.proto.poll, page := page }
          if y.tx.pollDue = true ∧ c.role ≠ .pollBegin then
            { x with tx := { tx with
                hold := some { value := 0x17#8, marker := true, role := .pollBegin }
                sending := [{ value := 0x65#8, marker := true, role := .plain }], due := due } }
          else match due with
            | [] => { x with tx := { tx with hold := none, pollDue := false } }
            | f :: behind =>
              { x with
                page := (match f with
                  | .pageOpen _ _ _ => page.map fun pg => { pg with cursor := some 0 }
                  | _ => page)
                tx := { tx with
                  pollDue := false, due := behind
                  hold := some { value := f.code, marker := true, role := if f = .poll then .pollBegin else .plain }
                  sending := (f.body.map fun b => TxChar.mk b false .plain) ++
                    [{ value := Wire.crc8 f.code f.body, marker := true, role := f.endRole }] } }))
     ((∀ pg, y.page = some pg → pg.cursor = none ∨ pg.closing = true ∨ ∃ f ∈ y.tx.due, body f = true) →
       begins y.page y.tx.due) ∧
     ∀ pg offset, y.page = some pg → pg.cursor = some offset → pg.closing = false →
       (∀ f ∈ y.tx.due, body f = false) →
       let count := min 256 (pg.entry.length - offset)
       (∀ bytes, offset < pg.entry.length →
         Dram.readRun blocks pg.entry.chain s.part.dram offset count = some bytes →
         begins (some { pg with cursor := some (offset + count) }) (.data bytes :: y.tx.due)) ∧
       (pg.entry.length ≤ offset →
         begins (some { pg with closing := true }) (.pageClose pg.entry.length :: y.tx.due)) ∧
       (offset < pg.entry.length → Dram.readRun blocks pg.entry.chain s.part.dram offset count = none →
         exec (.characterStart l true) s = .fault .dramAddress)) ∧
  (∀ (p : Part) (l : LineId) (bitTimes : Nat),
     (p.link.phase ≠ .running ∨ (p.room.line l).state = .disabled ∨ (p.room.line l).state = .loopback ∨
       (p.room.line l).tx.shift = none → p.txPin l bitTimes = true) ∧
     ∀ c, p.link.phase = .running → (p.room.line l).state.live = true → (p.room.line l).tx.shift = some c →
       let fmt := (p.room.line l).fmt
       let dataEnd := if fmt.parity = .none then 10 else 11
       p.txPin l 0 = false ∧ (∀ i, i < 8 → p.txPin l (i + 1) = c.value.getLsbD i) ∧ p.txPin l 9 = c.marker ∧
         (fmt.parity = .odd → p.txPin l 10 = decide (onesOf c.value c.marker % 2 = 0)) ∧
         (fmt.parity = .even → p.txPin l 10 = decide (onesOf c.value c.marker % 2 = 1)) ∧
         (fmt.parity = .zero → p.txPin l 10 = false) ∧ (dataEnd ≤ bitTimes → p.txPin l bitTimes = true))

/-- PAGE_CLOSE_SENT (R87, R88, R134). Under count source EXIT the entry of the page just sent is marked closed, and no
instance is confirmed. Under SENT it leaves the window and is confirmed: one more in the line's tally, its charge
moved from held to consumed with its sheet counted (here on an account that no close has left unmoved), one more
confirmed instance of its job. An owed JOB-END(COMPLETE) is sent next, under a pause too; a deferred release takes
effect; what the line then opens is reserved. Under a pause it opens nothing (R93). What follows in the same step is
stated with the operations that do it: the release and the JOB-END(COMPLETE) owed, the entry closed or confirmed
(MoneyIsConfirmedAndWatched, CompletionFreesTheJobAndItsLine), a failover that is DUE (EscalationAndFailover), and the
line goes on (TheLineGoesOn). That order within the one moment is the model's choice, log entry 44. -/
def Obligations.PageCloseClosesItsEntry : Prop :=
  ∀ (s : State) (l : LineId) (c : TxChar) (ahead behind : List Entry) (e : Entry),
    (s.part.room.line l).tx.shift = some c → c.role = .ends .pageClose →
    (s.part.room.line l).window = ahead ++ e :: behind → (∀ d ∈ ahead, d.closed = true) → e.closed = false →
    let y := s.part.room.line l
    let top := 4294967295
    ∃ (t : State) (opened : List Entry), exec (.pageCloseSent l) s = .next t ∧ t.part.dram = s.part.dram ∧
      t.part.link = s.part.link ∧ t.part.settings = s.part.settings ∧
      (let reserved := fun a : AcctId => ((opened.filter fun d => d.account = a).map Entry.charge).sum
       let raised := fun (a : AcctId) (acct : Account) => ∃ acct', t.part.room.account a = some acct' ∧
         acct' = { acct with held := acct.held + reserved a, crossed := acct'.crossed }
       (y.state = .alert → opened = [] ∧ (t.part.room.line l).state = .alert) ∧
       (let emptied := s.part.room.setLine l { y with tx := { y.tx with shift := none }, page := none }
        let freed := match y.page with
          | some pg => if pg.deferred then emptied.returnEntry pg.entry else emptied
          | none => emptied
        let owed := freed.sendOwedEnd l
        let settled := match y.count.source with
          | .exit => owed.setLine l { owed.line l with window := ahead ++ { e with closed := true } :: behind }
          | .sent => ((owed.setLine l { owed.line l with
              window := ahead ++ behind, count := { y.count with tally := y.count.tally + 1 } }).meterConfirm e).jobConfirm e
        t = s.modRoom fun _ => (settled.failoverIfDue l).proceed l) ∧
       (y.count.source = .exit → (t.part.room.line l).count = y.count ∧
         (t.part.room.line l).window = ahead ++ { e with closed := true } :: behind ++ opened ∧
         (∀ j x, s.part.room.job j = some x → ∃ x', t.part.room.job j = some x' ∧ x'.confirmed = x.confirmed) ∧
         ∀ a acct, s.part.room.account a = some acct → raised a acct) ∧
       (y.count.source = .sent → (t.part.room.line l).count = { y.count with tally := y.count.tally + 1 } ∧
         (t.part.room.line l).window = ahead ++ behind ++ opened ∧
         (∀ j x, s.part.room.job j = some x → ∃ x', t.part.room.job j = some x' ∧
           x'.confirmed = x.confirmed + if j = e.job then 1 else 0) ∧
         (∀ a acct, a ≠ e.account → s.part.room.account a = some acct → raised a acct) ∧
         ∀ acct, s.part.room.account e.account = some acct →
           s.part.room.meter.scan = none ∨ acct.epoch = s.part.room.meter.epoch →
           ∃ acct', t.part.room.account e.account = some acct' ∧
             acct' = { acct with
               held := acct.held - e.charge + reserved e.account, consumed := min top (acct.consumed + e.charge)
               sheets := min top (acct.sheets + 1), mono := acct'.mono, colour := acct'.colour
               saturated := acct'.saturated, crossed := acct'.crossed })) ∧
      (∀ j x, y.job = some j → s.part.room.job j = some x → y.started = true → y.endSent = false → x.pos = .done →
        x.cutPending = false →
        (y.count.source = .exit → (t.part.room.line l).endSent = true ∧ opened = []) ∧
        (y.tx.hold = none → y.tx.sending = [] → y.tx.due = [] → y.tx.pollDue = false →
          (t.part.room.line l).tx.hold = some { value := 0x15#8, marker := true, role := .plain } ∧
          (t.part.room.line l).tx.sending = [{ value := 0#8, marker := false, role := .plain },
            { value := Wire.crc8 0x15#8 [0#8], marker := true, role := .plain }])) ∧
      (∀ pg, y.page = some pg → pg.deferred = true → y.count.source = .exit →
        t.part.room.freeEntries = s.part.room.freeEntries + 1 ∧
        t.part.room.store = s.part.room.store.release pg.entry.chain)

/-- RESYNC_SENT (R94): in RECOVERING, when the RESYNC is that of the present recovery, a job that may go on is
announced again, one that is ABORTED leaves with JOB-END(ABORT), and one with a hold pending leaves with JOB-END(CUT),
HELD for HOST. JOB_START_SENT of the present announcement, with an empty window (R86, R94, R116, R49): the line is
BUSY and started; an affordable instance is opened, with its charge reserved and stored in its window entry and the
position stepped on; a refused one marks EXHAUSTED and stalls the job for BUDGET; a job waiting for a page stalls for
DATA. In every other case the line goes on as TheLineGoesOn says, from its new state: a hold or a cancel taken while
the JOB-START was being sent takes effect at once, with JOB-END(CUT), the job HELD for HOST, or with JOB-END(ABORT)
and its mark; under a pause the run is started and the line stays in ALERT, sending nothing more for it. A RESYNC or
JOB-START of an earlier binding or recovery starts nothing: the model knows it by the line's turn, log entry 23. -/
def Obligations.ResyncAndJobStartGoOn : Prop :=
  (∀ (s : State) (l : LineId) (c : TxChar) (turn : Nat), (s.part.room.line l).tx.shift = some c →
     c.role = .ends (.resync turn) →
     let y := s.part.room.line l
     (∀ j x, y.state = .recovering → y.turn = turn → y.job = some j → s.part.room.job j = some x → x.state = .active →
       x.holdPending = false → x.cutPending = false → y.tx.hold = none → y.tx.sending = [] → y.tx.due = [] →
       y.tx.pollDue = false →
       ∃ t, exec (.resyncSent l) s = .next t ∧
         t = s.modRoom (fun r => r.setLine l (t.part.room.line l)) ∧
         (t.part.room.line l).state = .recovering ∧ (t.part.room.line l).tx.shift = none ∧
         (t.part.room.line l).tx.hold = some { value := 0x11#8, marker := true, role := .plain } ∧
         (t.part.room.line l).tx.sending =
           ((Wire.field 4 x.tag.toNat ++ Wire.field 2 x.runCount).map fun b => TxChar.mk b false .plain) ++
             [{ value := Wire.crc8 0x11#8 (Wire.field 4 x.tag.toNat ++ Wire.field 2 x.runCount), marker := true,
                role := .ends (.jobStart turn) }]) ∧
     (∀ j x, y.state = .recovering → y.turn = turn → y.job = some j → s.part.room.job j = some x → x.state = .aborted →
       ∃ t, exec (.resyncSent l) s = .next t ∧ t.part.link = s.part.link ∧ t.part.dram = s.part.dram ∧
         t.part.settings = s.part.settings ∧ t.part.room.accounts = s.part.room.accounts ∧
         t.part.room.marked (.job j) (.aborted x.confirmed) ∧
         ((t.part.room.line l).state = .idle ∨ (t.part.room.line l).state = .busy) ∧
         ((∀ target, j ∉ s.part.room.queue target) →
           (t.part.room.line l).job ≠ some j ∧ t.part.room.job j = some { x with bound := none }) ∧
         (y.tx.hold = none → y.tx.sending = [] → y.tx.due = [] → y.tx.pollDue = false →
           (t.part.room.line l).tx.hold = some { value := 0x15#8, marker := true, role := .plain } ∧
           (t.part.room.line l).tx.sending = [{ value := 2#8, marker := false, role := .plain },
             { value := Wire.crc8 0x15#8 [2#8], marker := true, role := .plain }])) ∧
     (∀ j x, y.state = .recovering → y.turn = turn → y.job = some j → s.part.room.job j = some x → x.state = .active →
       x.holdPending = true → x.cutPending = false → (∀ target, j ∉ s.part.room.queue target) →
       ∃ t, exec (.resyncSent l) s = .next t ∧ t.part.link = s.part.link ∧ t.part.dram = s.part.dram ∧
         t.part.settings = s.part.settings ∧ t.part.room.accounts = s.part.room.accounts ∧
         ((t.part.room.line l).state = .idle ∨ (t.part.room.line l).state = .busy) ∧
         (t.part.room.line l).job ≠ some j ∧
         t.part.room.job j = some { x with state := .held, bound := none, holdReason := some .host,
                                           holdPending := false, stallReason := none, cutPending := false } ∧
         (y.tx.hold = none → y.tx.sending = [] → y.tx.due = [] → y.tx.pollDue = false →
           (t.part.room.line l).tx.hold = some { value := 0x15#8, marker := true, role := .plain } ∧
           (t.part.room.line l).tx.sending = [{ value := 1#8, marker := false, role := .plain },
             { value := Wire.crc8 0x15#8 [1#8], marker := true, role := .plain }])) ∧
     (y.state ≠ .recovering ∨ y.turn ≠ turn → exec (.resyncSent l) s = .next (s.modRoom fun r => r.setLine l
       { y with tx := { y.tx with shift := none } }))) ∧
  (∀ (s : State) (l : LineId) (c : TxChar) (turn : Nat), (s.part.room.line l).tx.shift = some c →
     c.role = .ends (.jobStart turn) → (s.part.room.line l).turn ≠ turn ∨ (s.part.room.line l).job = none →
     exec (.jobStartSent l) s = .next (s.modRoom fun r => r.setLine l
       { r.line l with tx := { (r.line l).tx with shift := none } })) ∧
  (∀ (s : State) (l : LineId) (j : JobId) (x : Job) (c : TxChar),
     (s.part.room.line l).tx.shift = some c → c.role = .ends (.jobStart (s.part.room.line l).turn) →
     (s.part.room.line l).job = some j → s.part.room.job j = some x →
     let y := s.part.room.line l
     ∃ t, exec (.jobStartSent l) s = .next t ∧
       (let started : Line := { y with
          started := true, state := if y.state = .recovering then .busy else y.state, tx := { y.tx with shift := none } }
        let watched : Line := { started with
          silence := if started.watches then some (y.silence.getD y.proto.silence) else none
          poll := if started.state.attached then some (y.poll.getD y.proto.poll) else none }
        t = s.modRoom (fun r => (r.setLine l watched).proceed l) ∧
        (y.state = .alert → t = s.modRoom fun r => r.setLine l watched)) ∧
       (y.state = .busy ∨ y.state = .recovering → y.window = [] → (∀ target, j ∉ s.part.room.queue target) →
         let z := t.part.room.line l
         let leaves := fun code : Byte => z.job ≠ some j ∧ (z.state = .idle ∨ z.state = .busy) ∧ z.window = [] ∧
           t.part.room.accounts = s.part.room.accounts ∧
           (y.tx.hold = none → y.tx.sending = [] → y.tx.due = [] → y.tx.pollDue = false →
             z.tx.hold = some { value := 0x15#8, marker := true, role := .plain } ∧
             z.tx.sending = [{ value := code, marker := false, role := .plain },
               { value := Wire.crc8 0x15#8 [code], marker := true, role := .plain }])
         (x.state = .aborted → leaves 2#8 ∧ t.part.room.job j = some { x with bound := none } ∧
           t.part.room.marked (.job j) (.aborted x.confirmed)) ∧
         (x.state ≠ .aborted → x.state ≠ .suspended → x.cutPending = false → x.holdPending = true → leaves 1#8 ∧
           t.part.room.job j = some { x with state := .held, bound := none, holdReason := some .host, holdPending := false,
                                             stallReason := none, cutPending := false }))) ∧
  (∀ (s : State) (l : LineId) (j : JobId) (x : Job) (c : TxChar) (copy page : Nat),
     (s.part.room.line l).tx.shift = some c → c.role = .ends (.jobStart (s.part.room.line l).turn) →
     (s.part.room.line l).job = some j → s.part.room.job j = some x → x.state = .active → x.holdPending = false →
     x.cutPending = false → (s.part.room.line l).state = .busy ∨ (s.part.room.line l).state = .recovering →
     (s.part.room.line l).window = [] → (s.part.room.line l).page = none → (s.part.room.line l).endSent = false →
     0 < (s.part.room.line l).depth → x.pos = .at copy page →
     let y := s.part.room.line l
     ∃ t, exec (.jobStartSent l) s = .next t ∧ t.part.link = s.part.link ∧ t.part.dram = s.part.dram ∧
       t.part.settings = s.part.settings ∧ (t.part.room.line l).state = .busy ∧ (t.part.room.line l).started = true ∧
       (∀ k, k ≠ l → t.part.room.line k = s.part.room.line k) ∧
       (∀ e acct, x.nextEntry = some e → s.part.room.account x.account = some acct →
         let charge := s.part.room.chargeOf acct e.desc
         (acct.mode ≠ .hard ∨ charge ≤ acct.limit - (acct.consumed + acct.held) →
           (t.part.room.line l).window = [{ job := j, copy := copy, page := page, charge := charge,
                                            account := x.account, closed := false, desc := e.desc }] ∧
           (∃ pg, (t.part.room.line l).page = some pg ∧ pg.job = j ∧ pg.copy = copy ∧ pg.entry = e) ∧
           t.part.room.job j = some { x with pos := x.stepFrom copy page } ∧
           (∃ acct', t.part.room.account x.account = some acct' ∧
             acct' = { acct with held := acct.held + charge, crossed := acct'.crossed }) ∧
           ∀ a, a ≠ x.account → t.part.room.account a = s.part.room.account a) ∧
         (acct.mode = .hard → acct.limit - (acct.consumed + acct.held) < charge →
           (t.part.room.line l).window = [] ∧ t.part.room.accounts = s.part.room.accounts ∧
           t.part.room.job j = some { x with state := .stalled, stallReason := some .budget } ∧
           t.part.room.marked (.account x.account) (.exhausted charge) ∧
           (t.part.room.line l).stall = s.part.room.stallLoad l)) ∧
       (x.waiting = true → x.nextEntry = none →
         (t.part.room.line l).window = [] ∧ t.part.room.accounts = s.part.room.accounts ∧
         t.part.room.job j = some { x with state := .stalled, stallReason := some .data } ∧
         (∀ b, y.bay = some b → (t.part.room.line l).stall =
           if s.part.room.stallTimeout.get b = 0 then none else some (1000 * s.part.room.stallTimeout.get b)) ∧
         (y.bay = none → (t.part.room.line l).stall = none)))

/-! ## Invariants that every step keeps -/

/-- R25, R26, R37: the DRAM keeps its canonical form, and the used blocks stay in rising order below N, with none used
before STRAP. R2, R27 and R31: every used block stands in exactly one chain, once, every page entry is free or in use,
and a page of L bytes has ceil(L / 8,192) blocks. Every step keeps both. -/
def Obligations.StoreStaysSound : Prop :=
  (∀ s t : State, Dram.wf s.part.dram = true → s.part.storeSound → step s = .next t →
    Dram.wf t.part.dram = true ∧ t.part.storeSound) ∧
  (∀ s t : State, s.part.storeSound → s.part.room.blocksSound → step s = .next t → t.part.room.blocksSound)

/-- R67, R173 to R175, R179: the request buffer, the reply queue and every inbound queue stay within their four places,
a place is kept for the reply of a request in hand, and the attention list holds each key once and none without a
mark, the marks of a key in the order of the table of section 11.5 (R180). -/
def Obligations.QueuesStayWithinTheirPlaces : Prop :=
  ∀ s t : State, s.part.link.sound → s.part.room.inboundSound → attnSound s.part.room.attn → step s = .next t →
    t.part.link.sound ∧ t.part.room.inboundSound ∧ attnSound t.part.room.attn

/-- R84, R140, R164, R166, R182: a line has an open record exactly in ALERT, a silence timer only while attached, and is
DISABLED before RUNNING; every bay's selection is the one its records call for, and the bell rings exactly when some
open record is at level 3 and not acknowledged. -/
def Obligations.LinesAndFloorStayConsistent : Prop :=
  ∀ s t : State, s.part.linesSound → s.part.room.floorSound → step s = .next t →
    t.part.linesSound ∧ t.part.room.floorSound

/-- R1, R40, R41, R47 and R79: in a room whose lines are sound, a job and a line name each other, so that a job has at most
one line and a line at most one job; a line holds one in BUSY and RECOVERING, and only there or in ALERT; a job is in one
queue, that of its target, exactly when it is QUEUED; and every queue stands in class order. Every step keeps this. -/
def Obligations.BindingsStayConsistent : Prop :=
  ∀ s t : State, s.part.linesSound → s.part.room.bindingsSound → step s = .next t → t.part.room.bindingsSound

/-- R4, R20 and R86: with sound lines and bindings, for every job that is not ABORTED the confirmed instances, those in flight
and those not yet sent make up copies × page count; every window holds instances of its line's job in order from the first
unconfirmed one on, and no more of them than its depth. Every step keeps this. -/
def Obligations.WindowsHoldTheJobsInstances : Prop :=
  ∀ s t : State, s.part.linesSound → s.part.room.bindingsSound → s.part.room.windowsSound → step s = .next t →
    t.part.room.windowsSound

/-- R119 and R109: for every account held equals the sum of the charges in its window entries, and its job references
count the jobs that bill it; both hold at reset and every step keeps them. R111: with that, consumed and held of a HARD
account stay within its limit. -/
def Obligations.HeldIsTheSumOfItsCharges : Prop :=
  State.reset.part.room.accountsSound ∧
    (∀ s t : State, s.part.room.accountsSound → step s = .next t → t.part.room.accountsSound) ∧
    ∀ s t : State, s.part.room.accountsSound → s.part.room.hardSound → step s = .next t → t.part.room.hardSound

/-- R124 to R127: while no close is in flight every ACTIVE account is of the device epoch; while one is, so is every
account below the scan position. -/
def Obligations.EpochsFollowTheScan : Prop :=
  ∀ s t : State, s.part.room.epochsSound → step s = .next t → t.part.room.epochsSound

/-- R28, R182 to R184, with R39, R60, R99, R122, R147, R163: only the configuration requests, the strap sample and
power-on change a setting; RUNNING is entered by START alone and left by POWER_ON_RESET alone; PAGE_DATA alone writes
the DRAM; no command touches the commands that wait (the model's own queue). -/
def Obligations.WhatOnlySomeCommandsChange : Prop :=
  (∀ (s t : State) (c : Instr), exec c s = .next t → configures c = false → t.part.settings = s.part.settings) ∧
  (∀ (s t : State) (c : Instr), exec c s = .next t → s.part.link.phase ≠ .running → t.part.link.phase = .running →
    c = .start ∧ s.part.link.phase = .unconfigured) ∧
  (∀ (s t : State) (c : Instr), exec c s = .next t → s.part.link.phase = .running → t.part.link.phase ≠ .running →
    c = .powerOnReset ∧ t.part.link.phase = .powerClear) ∧
  (∀ (s t : State) (c : Instr), exec c s = .next t → t.pending = s.pending ∧
    (c ≠ .pageData → t.part.dram = s.part.dram)) ∧
  (∀ s t : State, s.pending = [] → step s = .next t →
    t.part.settings = s.part.settings ∧ t.part.link.phase = s.part.link.phase)

/-- Every invariant above holds of the machine right after reset. -/
def Obligations.InvariantsHoldAtReset : Prop :=
  Dram.wf State.reset.part.dram = true ∧ State.reset.part.storeSound ∧ State.reset.part.link.sound ∧
    State.reset.part.room.inboundSound ∧ attnSound State.reset.part.room.attn ∧ State.reset.part.linesSound ∧
    State.reset.part.room.floorSound ∧ State.reset.part.room.accountsSound ∧ State.reset.part.room.epochsSound ∧
    State.reset.part.room.hardSound ∧ State.reset.part.room.bindingsSound ∧ State.reset.part.room.windowsSound ∧
    State.reset.part.room.blocksSound
end

