-- ==== Sys2Proof/Laws/Dram.lean ====
section
/-! SUPPORT. The bytes of the external DRAM: every operation keeps the canonical form, and a byte reads as it was last
written. -/

namespace Sys2Proof.Dram

theorem wfFrom_mono {low low' : Nat} {m : List (Nat × Byte)} (h : low' ≤ low) (hm : wfFrom low m = true) :
    wfFrom low' m = true := by
  cases m with
  | nil => rfl
  | cons e rest =>
    obtain ⟨a, v⟩ := e
    simp only [wfFrom, Bool.and_eq_true, decide_eq_true_eq] at hm ⊢
    exact ⟨⟨by omega, hm.1.2⟩, hm.2⟩

/-- An address below every listed one reads as unlisted. -/
theorem read_below {low : Nat} {m : List (Nat × Byte)} (hm : wfFrom low m = true) {a : Nat} (h : a < low) :
    read m a = unlisted a := by
  induction m generalizing low with
  | nil => rfl
  | cons e rest ih =>
    obtain ⟨b, v⟩ := e
    simp only [wfFrom, Bool.and_eq_true, decide_eq_true_eq] at hm
    simp only [read]
    rw [if_neg (by omega)]
    exact ih hm.2 (by omega)

theorem write_wfFrom {low : Nat} {m : List (Nat × Byte)} (hm : wfFrom low m = true) {a : Nat} (v : Byte)
    (h : low ≤ a) : wfFrom low (write m a v) = true := by
  induction m generalizing low with
  | nil => simp only [write]; split <;> simp_all [wfFrom]
  | cons e rest ih =>
    obtain ⟨b, w⟩ := e
    simp only [wfFrom, Bool.and_eq_true, decide_eq_true_eq] at hm
    simp only [write]
    split_ifs with h1 h2 h3 h4
    · simp [wfFrom, hm]
    · simp only [wfFrom, Bool.and_eq_true, decide_eq_true_eq]
      exact ⟨⟨h, h2⟩, ⟨⟨by omega, hm.1.2⟩, hm.2⟩⟩
    · exact wfFrom_mono (by omega) hm.2
    · subst h3
      simp only [wfFrom, Bool.and_eq_true, decide_eq_true_eq]
      exact ⟨⟨h, h4⟩, hm.2⟩
    · simp only [wfFrom, Bool.and_eq_true, decide_eq_true_eq]
      exact ⟨hm.1, ih hm.2 (by omega)⟩

/-- A write keeps the canonical form. -/
theorem write_wf {m : List (Nat × Byte)} (hm : wf m = true) (a : Nat) (v : Byte) : wf (write m a v) = true :=
  write_wfFrom hm v (Nat.zero_le a)

theorem read_write_from {low : Nat} {m : List (Nat × Byte)} (hm : wfFrom low m = true) (a c : Nat) (v : Byte) :
    read (write m a v) c = if c = a then v else read m c := by
  induction m generalizing low with
  | nil =>
    simp only [write]
    by_cases h1 : v = unlisted a
    · rw [if_pos h1]
      by_cases h2 : c = a
      · rw [if_pos h2, h1, h2]; rfl
      · rw [if_neg h2]
    · rw [if_neg h1]
      simp only [read]
      by_cases h2 : c = a
      · rw [if_pos h2.symm, if_pos h2]
      · rw [if_neg (Ne.symm h2), if_neg h2]
  | cons e rest ih =>
    obtain ⟨b, w⟩ := e
    simp only [wfFrom, Bool.and_eq_true, decide_eq_true_eq] at hm
    simp only [write]
    by_cases h1 : a < b
    · rw [if_pos h1]
      by_cases h2 : v = unlisted a
      · rw [if_pos h2]
        split_ifs with h3
        · subst h3; rw [h2]
          exact read_below (low := b) (by simp [wfFrom, hm]) h1
        · rfl
      · rw [if_neg h2]; simp only [read]; by_cases h3 : c = a
        · rw [if_pos h3.symm, if_pos h3]
        · rw [if_neg (Ne.symm h3), if_neg h3]
    · rw [if_neg h1]
      by_cases h2 : a = b
      · subst h2
        rw [if_pos rfl]
        by_cases h3 : v = unlisted a
        · rw [if_pos h3]
          simp only [read]
          by_cases h4 : c = a
          · subst h4; rw [if_pos rfl, h3]; exact read_below hm.2 (by omega)
          · rw [if_neg h4, if_neg (Ne.symm h4)]
        · rw [if_neg h3]
          simp only [read]
          by_cases h4 : c = a
          · rw [if_pos h4.symm, if_pos h4]
          · rw [if_neg (Ne.symm h4), if_neg h4, if_neg (Ne.symm h4)]
      · rw [if_neg h2]
        simp only [read, ih hm.2]
        by_cases h3 : b = c
        · subst h3; rw [if_pos rfl, if_pos rfl, if_neg (Ne.symm h2)]
        · rw [if_neg h3, if_neg h3]

/-- What a byte reads as after a write. -/
theorem read_write {m : List (Nat × Byte)} (hm : wf m = true) (a c : Nat) (v : Byte) :
    read (write m a v) c = if c = a then v else read m c :=
  read_write_from hm a c v

/-- A run of bytes written keeps the canonical form. -/
theorem writeRun_wf {blocks : Nat} {chain : List Nat} {m m' : List (Nat × Byte)} {k : Nat} {vs : List Byte}
    (hm : wf m = true) (h : writeRun blocks chain m k vs = some m') : wf m' = true := by
  induction vs generalizing m k with
  | nil => cases h; exact hm
  | cons v vs ih =>
    simp only [writeRun] at h
    split at h
    · exact ih (write_wf hm _ _) h
    · cases h

end Sys2Proof.Dram
end

