-- ==== Sys2Proof/Laws/State.lean ====
section
/-! SUPPORT. One lemma per field per update of the state's records, true by `rfl`, and the reading of one row of a table
after another was written. -/

namespace Sys2Proof.Machine

/-! ## The state around the part -/

@[simp] theorem State.setPart_part (s : State) (p : Part) : (s.setPart p).part = p := rfl
@[simp] theorem State.setPart_pending (s : State) (p : Part) : (s.setPart p).pending = s.pending := rfl
@[simp] theorem State.setPart_setPart (s : State) (p q : Part) : (s.setPart p).setPart q = s.setPart q := rfl
@[simp] theorem State.setPart_self (s : State) : s.setPart s.part = s := rfl
@[simp] theorem State.modRoom_room (s : State) (f : Room → Room) : (s.modRoom f).part.room = f s.part.room := rfl
@[simp] theorem State.modRoom_link (s : State) (f : Room → Room) : (s.modRoom f).part.link = s.part.link := rfl
@[simp] theorem State.modRoom_dram (s : State) (f : Room → Room) : (s.modRoom f).part.dram = s.part.dram := rfl
@[simp] theorem State.modRoom_pending (s : State) (f : Room → Room) : (s.modRoom f).pending = s.pending := rfl
@[simp] theorem State.modRoom_pins (s : State) (f : Room → Room) : (s.modRoom f).part.pins = s.part.pins := rfl
@[simp] theorem State.modLink_pins (s : State) (f : Link → Link) : (s.modLink f).part.pins = s.part.pins := rfl
@[simp] theorem State.modLink_room (s : State) (f : Link → Link) : (s.modLink f).part.room = s.part.room := rfl
@[simp] theorem State.modLink_link (s : State) (f : Link → Link) : (s.modLink f).part.link = f s.part.link := rfl
@[simp] theorem State.modLink_dram (s : State) (f : Link → Link) : (s.modLink f).part.dram = s.part.dram := rfl
@[simp] theorem State.modLink_pending (s : State) (f : Link → Link) : (s.modLink f).pending = s.pending := rfl

/-! ## Floor input pins -/

@[simp] theorem Part.ackEdge_link (p : Part) (b : BayId) (v : Bool) : (p.ackEdge b v).link = p.link := rfl
@[simp] theorem Part.ackEdge_dram (p : Part) (b : BayId) (v : Bool) : (p.ackEdge b v).dram = p.dram := rfl
@[simp] theorem Part.ackEdge_shift (p : Part) (b : BayId) (v : Bool) : (p.ackEdge b v).pins.shift = p.pins.shift := rfl
@[simp] theorem Part.shiftLevel_link (p : Part) (v : Bool) : (p.shiftLevel v).link = p.link := rfl
@[simp] theorem Part.shiftLevel_dram (p : Part) (v : Bool) : (p.shiftLevel v).dram = p.dram := rfl
@[simp] theorem Part.shiftLevel_pins (p : Part) (v : Bool) : (p.shiftLevel v).pins = { p.pins with shift := v } := rfl

/-! ## Tables: the row written, and the others -/

@[simp] theorem toFin?_val {n : Nat} (i : Fin n) : toFin? n i.val = some i := by simp [toFin?]

theorem toFin?_eq_some {n k : Nat} {i : Fin n} : toFin? n k = some i ↔ i.val = k := by
  unfold toFin?; split
  · simp [Fin.ext_iff, eq_comm]
  · constructor
    · intro h; cases h
    · intro h; omega

theorem toFin?_eq_none {n k : Nat} : toFin? n k = none ↔ n ≤ k := by
  unfold toFin?; split <;> simp <;> omega

/-- Reading a table by an identifier is reading it at the identifier's number. -/
theorem get_eq {α : Type} {n : Nat} (v : Vector α n) (i : Fin n) : v.get i = v[i.val] := rfl

@[simp] theorem mapTable_get {α β : Type} {n : Nat} (f : α → β) (v : Vector α n) (i : Fin n) :
    (mapTable f v).get i = f (v.get i) := by
  rw [get_eq, get_eq]; simp [mapTable]

/-! ## `Room.setLine` -/

@[simp] theorem Room.setLine_attn (r : Room) (i : LineId) (x : Line) : (r.setLine i x).attn = r.attn := rfl
@[simp] theorem Room.setLine_jobs (r : Room) (i : LineId) (x : Line) : (r.setLine i x).jobs = r.jobs := rfl
@[simp] theorem Room.setLine_freeEntries (r : Room) (i : LineId) (x : Line) :
    (r.setLine i x).freeEntries = r.freeEntries := rfl
@[simp] theorem Room.setLine_store (r : Room) (i : LineId) (x : Line) : (r.setLine i x).store = r.store := rfl
@[simp] theorem Room.setLine_stallTimeout (r : Room) (i : LineId) (x : Line) :
    (r.setLine i x).stallTimeout = r.stallTimeout := rfl
@[simp] theorem Room.setLine_bayQueues (r : Room) (i : LineId) (x : Line) :
    (r.setLine i x).bayQueues = r.bayQueues := rfl
@[simp] theorem Room.setLine_lineQueues (r : Room) (i : LineId) (x : Line) :
    (r.setLine i x).lineQueues = r.lineQueues := rfl
@[simp] theorem Room.setLine_meter (r : Room) (i : LineId) (x : Line) : (r.setLine i x).meter = r.meter := rfl
@[simp] theorem Room.setLine_accounts (r : Room) (i : LineId) (x : Line) : (r.setLine i x).accounts = r.accounts := rfl
@[simp] theorem Room.setLine_snapshots (r : Room) (i : LineId) (x : Line) :
    (r.setLine i x).snapshots = r.snapshots := rfl
@[simp] theorem Room.setLine_profiles (r : Room) (i : LineId) (x : Line) : (r.setLine i x).profiles = r.profiles := rfl
@[simp] theorem Room.setLine_ms (r : Room) (i : LineId) (x : Line) : (r.setLine i x).ms = r.ms := rfl
@[simp] theorem Room.setLine_floor (r : Room) (i : LineId) (x : Line) : (r.setLine i x).floor = r.floor := rfl
@[simp] theorem Room.setLine_job (r : Room) (i : LineId) (x : Line) (k : JobId) : (r.setLine i x).job k = r.job k := rfl
@[simp] theorem Room.setLine_account (r : Room) (i : LineId) (x : Line) (k : AcctId) :
    (r.setLine i x).account k = r.account k := rfl
@[simp] theorem Room.setLine_snapshot (r : Room) (i : LineId) (x : Line) (k : AcctId) :
    (r.setLine i x).snapshot k = r.snapshot k := rfl
@[simp] theorem Room.setLine_same (r : Room) (i : LineId) (x : Line) : (r.setLine i x).line i = x := by
  simp [Room.setLine, Room.line, get_eq]
theorem Room.setLine_other (r : Room) (i k : LineId) (x : Line) (h : k ≠ i) : (r.setLine i x).line k = r.line k := by
  have : i.val ≠ k.val := fun e => h (Fin.ext e.symm)
  simp [Room.setLine, Room.line, get_eq, this]
theorem Room.setLine_line (r : Room) (i k : LineId) (x : Line) :
    (r.setLine i x).line k = if k = i then x else r.line k := by
  split
  · next h => subst h; simp
  · next h => exact Room.setLine_other r i k x h
@[simp] theorem Room.setLine_twice (r : Room) (i : LineId) (x y : Line) :
    (r.setLine i x).setLine i y = r.setLine i y := by
  simp [Room.setLine]

/-! ## `Room.setJob` -/

@[simp] theorem Room.setJob_attn (r : Room) (i : JobId) (x : Option Job) : (r.setJob i x).attn = r.attn := rfl
@[simp] theorem Room.setJob_freeEntries (r : Room) (i : JobId) (x : Option Job) :
    (r.setJob i x).freeEntries = r.freeEntries := rfl
@[simp] theorem Room.setJob_store (r : Room) (i : JobId) (x : Option Job) : (r.setJob i x).store = r.store := rfl
@[simp] theorem Room.setJob_stallTimeout (r : Room) (i : JobId) (x : Option Job) :
    (r.setJob i x).stallTimeout = r.stallTimeout := rfl
@[simp] theorem Room.setJob_bayQueues (r : Room) (i : JobId) (x : Option Job) :
    (r.setJob i x).bayQueues = r.bayQueues := rfl
@[simp] theorem Room.setJob_lineQueues (r : Room) (i : JobId) (x : Option Job) :
    (r.setJob i x).lineQueues = r.lineQueues := rfl
@[simp] theorem Room.setJob_lines (r : Room) (i : JobId) (x : Option Job) : (r.setJob i x).lines = r.lines := rfl
@[simp] theorem Room.setJob_meter (r : Room) (i : JobId) (x : Option Job) : (r.setJob i x).meter = r.meter := rfl
@[simp] theorem Room.setJob_accounts (r : Room) (i : JobId) (x : Option Job) :
    (r.setJob i x).accounts = r.accounts := rfl
@[simp] theorem Room.setJob_snapshots (r : Room) (i : JobId) (x : Option Job) :
    (r.setJob i x).snapshots = r.snapshots := rfl
@[simp] theorem Room.setJob_profiles (r : Room) (i : JobId) (x : Option Job) :
    (r.setJob i x).profiles = r.profiles := rfl
@[simp] theorem Room.setJob_ms (r : Room) (i : JobId) (x : Option Job) : (r.setJob i x).ms = r.ms := rfl
@[simp] theorem Room.setJob_floor (r : Room) (i : JobId) (x : Option Job) : (r.setJob i x).floor = r.floor := rfl
@[simp] theorem Room.setJob_line (r : Room) (i : JobId) (x : Option Job) (k : LineId) :
    (r.setJob i x).line k = r.line k := rfl
@[simp] theorem Room.setJob_account (r : Room) (i : JobId) (x : Option Job) (k : AcctId) :
    (r.setJob i x).account k = r.account k := rfl
@[simp] theorem Room.setJob_snapshot (r : Room) (i : JobId) (x : Option Job) (k : AcctId) :
    (r.setJob i x).snapshot k = r.snapshot k := rfl
@[simp] theorem Room.setJob_same (r : Room) (i : JobId) (x : Option Job) : (r.setJob i x).job i = x := by
  simp [Room.setJob, Room.job, get_eq]
theorem Room.setJob_other (r : Room) (i k : JobId) (x : Option Job) (h : k ≠ i) : (r.setJob i x).job k = r.job k := by
  have : i.val ≠ k.val := fun e => h (Fin.ext e.symm)
  simp [Room.setJob, Room.job, get_eq, this]
theorem Room.setJob_job (r : Room) (i k : JobId) (x : Option Job) :
    (r.setJob i x).job k = if k = i then x else r.job k := by
  split
  · next h => subst h; simp
  · next h => exact Room.setJob_other r i k x h
@[simp] theorem Room.setJob_twice (r : Room) (i : JobId) (x y : Option Job) :
    (r.setJob i x).setJob i y = r.setJob i y := by
  simp [Room.setJob]

/-! ## `Room.setAccount` -/

@[simp] theorem Room.setAccount_attn (r : Room) (i : AcctId) (x : Option Account) :
    (r.setAccount i x).attn = r.attn := rfl
@[simp] theorem Room.setAccount_jobs (r : Room) (i : AcctId) (x : Option Account) :
    (r.setAccount i x).jobs = r.jobs := rfl
@[simp] theorem Room.setAccount_freeEntries (r : Room) (i : AcctId) (x : Option Account) :
    (r.setAccount i x).freeEntries = r.freeEntries := rfl
@[simp] theorem Room.setAccount_store (r : Room) (i : AcctId) (x : Option Account) :
    (r.setAccount i x).store = r.store := rfl
@[simp] theorem Room.setAccount_stallTimeout (r : Room) (i : AcctId) (x : Option Account) :
    (r.setAccount i x).stallTimeout = r.stallTimeout := rfl
@[simp] theorem Room.setAccount_bayQueues (r : Room) (i : AcctId) (x : Option Account) :
    (r.setAccount i x).bayQueues = r.bayQueues := rfl
@[simp] theorem Room.setAccount_lineQueues (r : Room) (i : AcctId) (x : Option Account) :
    (r.setAccount i x).lineQueues = r.lineQueues := rfl
@[simp] theorem Room.setAccount_lines (r : Room) (i : AcctId) (x : Option Account) :
    (r.setAccount i x).lines = r.lines := rfl
@[simp] theorem Room.setAccount_meter (r : Room) (i : AcctId) (x : Option Account) :
    (r.setAccount i x).meter = r.meter := rfl
@[simp] theorem Room.setAccount_snapshots (r : Room) (i : AcctId) (x : Option Account) :
    (r.setAccount i x).snapshots = r.snapshots := rfl
@[simp] theorem Room.setAccount_profiles (r : Room) (i : AcctId) (x : Option Account) :
    (r.setAccount i x).profiles = r.profiles := rfl
@[simp] theorem Room.setAccount_ms (r : Room) (i : AcctId) (x : Option Account) : (r.setAccount i x).ms = r.ms := rfl
@[simp] theorem Room.setAccount_floor (r : Room) (i : AcctId) (x : Option Account) :
    (r.setAccount i x).floor = r.floor := rfl
@[simp] theorem Room.setAccount_line (r : Room) (i : AcctId) (x : Option Account) (k : LineId) :
    (r.setAccount i x).line k = r.line k := rfl
@[simp] theorem Room.setAccount_job (r : Room) (i : AcctId) (x : Option Account) (k : JobId) :
    (r.setAccount i x).job k = r.job k := rfl
@[simp] theorem Room.setAccount_snapshot (r : Room) (i : AcctId) (x : Option Account) (k : AcctId) :
    (r.setAccount i x).snapshot k = r.snapshot k := rfl
@[simp] theorem Room.setAccount_same (r : Room) (i : AcctId) (x : Option Account) :
    (r.setAccount i x).account i = x := by
  simp [Room.setAccount, Room.account, get_eq]
theorem Room.setAccount_other (r : Room) (i k : AcctId) (x : Option Account) (h : k ≠ i) :
    (r.setAccount i x).account k = r.account k := by
  have : i.val ≠ k.val := fun e => h (Fin.ext e.symm)
  simp [Room.setAccount, Room.account, get_eq, this]
theorem Room.setAccount_account (r : Room) (i k : AcctId) (x : Option Account) :
    (r.setAccount i x).account k = if k = i then x else r.account k := by
  split
  · next h => subst h; simp
  · next h => exact Room.setAccount_other r i k x h
@[simp] theorem Room.setAccount_twice (r : Room) (i : AcctId) (x y : Option Account) :
    (r.setAccount i x).setAccount i y = r.setAccount i y := by
  simp [Room.setAccount]

/-! ## `Room.setSnapshot` -/

@[simp] theorem Room.setSnapshot_attn (r : Room) (i : AcctId) (x : Option Snapshot) :
    (r.setSnapshot i x).attn = r.attn := rfl
@[simp] theorem Room.setSnapshot_jobs (r : Room) (i : AcctId) (x : Option Snapshot) :
    (r.setSnapshot i x).jobs = r.jobs := rfl
@[simp] theorem Room.setSnapshot_freeEntries (r : Room) (i : AcctId) (x : Option Snapshot) :
    (r.setSnapshot i x).freeEntries = r.freeEntries := rfl
@[simp] theorem Room.setSnapshot_store (r : Room) (i : AcctId) (x : Option Snapshot) :
    (r.setSnapshot i x).store = r.store := rfl
@[simp] theorem Room.setSnapshot_stallTimeout (r : Room) (i : AcctId) (x : Option Snapshot) :
    (r.setSnapshot i x).stallTimeout = r.stallTimeout := rfl
@[simp] theorem Room.setSnapshot_bayQueues (r : Room) (i : AcctId) (x : Option Snapshot) :
    (r.setSnapshot i x).bayQueues = r.bayQueues := rfl
@[simp] theorem Room.setSnapshot_lineQueues (r : Room) (i : AcctId) (x : Option Snapshot) :
    (r.setSnapshot i x).lineQueues = r.lineQueues := rfl
@[simp] theorem Room.setSnapshot_lines (r : Room) (i : AcctId) (x : Option Snapshot) :
    (r.setSnapshot i x).lines = r.lines := rfl
@[simp] theorem Room.setSnapshot_meter (r : Room) (i : AcctId) (x : Option Snapshot) :
    (r.setSnapshot i x).meter = r.meter := rfl
@[simp] theorem Room.setSnapshot_accounts (r : Room) (i : AcctId) (x : Option Snapshot) :
    (r.setSnapshot i x).accounts = r.accounts := rfl
@[simp] theorem Room.setSnapshot_profiles (r : Room) (i : AcctId) (x : Option Snapshot) :
    (r.setSnapshot i x).profiles = r.profiles := rfl
@[simp] theorem Room.setSnapshot_ms (r : Room) (i : AcctId) (x : Option Snapshot) : (r.setSnapshot i x).ms = r.ms := rfl
@[simp] theorem Room.setSnapshot_floor (r : Room) (i : AcctId) (x : Option Snapshot) :
    (r.setSnapshot i x).floor = r.floor := rfl
@[simp] theorem Room.setSnapshot_line (r : Room) (i : AcctId) (x : Option Snapshot) (k : LineId) :
    (r.setSnapshot i x).line k = r.line k := rfl
@[simp] theorem Room.setSnapshot_job (r : Room) (i : AcctId) (x : Option Snapshot) (k : JobId) :
    (r.setSnapshot i x).job k = r.job k := rfl
@[simp] theorem Room.setSnapshot_account (r : Room) (i : AcctId) (x : Option Snapshot) (k : AcctId) :
    (r.setSnapshot i x).account k = r.account k := rfl
@[simp] theorem Room.setSnapshot_same (r : Room) (i : AcctId) (x : Option Snapshot) :
    (r.setSnapshot i x).snapshot i = x := by
  simp [Room.setSnapshot, Room.snapshot, get_eq]
theorem Room.setSnapshot_other (r : Room) (i k : AcctId) (x : Option Snapshot) (h : k ≠ i) :
    (r.setSnapshot i x).snapshot k = r.snapshot k := by
  have : i.val ≠ k.val := fun e => h (Fin.ext e.symm)
  simp [Room.setSnapshot, Room.snapshot, get_eq, this]
theorem Room.setSnapshot_snapshot (r : Room) (i k : AcctId) (x : Option Snapshot) :
    (r.setSnapshot i x).snapshot k = if k = i then x else r.snapshot k := by
  split
  · next h => subst h; simp
  · next h => exact Room.setSnapshot_other r i k x h
@[simp] theorem Room.setSnapshot_twice (r : Room) (i : AcctId) (x y : Option Snapshot) :
    (r.setSnapshot i x).setSnapshot i y = r.setSnapshot i y := by
  simp [Room.setSnapshot]

/-! ## `Room.modLine`, `Room.modJob`, `Room.modAccount` -/

@[simp] theorem Room.modLine_attn (r : Room) (l : LineId) (g : Line → Line) : (r.modLine l g).attn = r.attn := rfl
@[simp] theorem Room.modLine_jobs (r : Room) (l : LineId) (g : Line → Line) : (r.modLine l g).jobs = r.jobs := rfl
@[simp] theorem Room.modLine_freeEntries (r : Room) (l : LineId) (g : Line → Line) :
    (r.modLine l g).freeEntries = r.freeEntries := rfl
@[simp] theorem Room.modLine_store (r : Room) (l : LineId) (g : Line → Line) : (r.modLine l g).store = r.store := rfl
@[simp] theorem Room.modLine_stallTimeout (r : Room) (l : LineId) (g : Line → Line) :
    (r.modLine l g).stallTimeout = r.stallTimeout := rfl
@[simp] theorem Room.modLine_bayQueues (r : Room) (l : LineId) (g : Line → Line) :
    (r.modLine l g).bayQueues = r.bayQueues := rfl
@[simp] theorem Room.modLine_lineQueues (r : Room) (l : LineId) (g : Line → Line) :
    (r.modLine l g).lineQueues = r.lineQueues := rfl
@[simp] theorem Room.modLine_meter (r : Room) (l : LineId) (g : Line → Line) : (r.modLine l g).meter = r.meter := rfl
@[simp] theorem Room.modLine_accounts (r : Room) (l : LineId) (g : Line → Line) :
    (r.modLine l g).accounts = r.accounts := rfl
@[simp] theorem Room.modLine_snapshots (r : Room) (l : LineId) (g : Line → Line) :
    (r.modLine l g).snapshots = r.snapshots := rfl
@[simp] theorem Room.modLine_profiles (r : Room) (l : LineId) (g : Line → Line) :
    (r.modLine l g).profiles = r.profiles := rfl
@[simp] theorem Room.modLine_ms (r : Room) (l : LineId) (g : Line → Line) : (r.modLine l g).ms = r.ms := rfl
@[simp] theorem Room.modLine_floor (r : Room) (l : LineId) (g : Line → Line) : (r.modLine l g).floor = r.floor := rfl
@[simp] theorem Room.modLine_job (r : Room) (l : LineId) (g : Line → Line) (k : JobId) :
    (r.modLine l g).job k = r.job k := rfl
@[simp] theorem Room.modLine_account (r : Room) (l : LineId) (g : Line → Line) (k : AcctId) :
    (r.modLine l g).account k = r.account k := rfl
@[simp] theorem Room.modLine_snapshot (r : Room) (l : LineId) (g : Line → Line) (k : AcctId) :
    (r.modLine l g).snapshot k = r.snapshot k := rfl
@[simp] theorem Room.modLine_same (r : Room) (l : LineId) (g : Line → Line) :
    (r.modLine l g).line l = g (r.line l) := by
  simp [Room.modLine]
theorem Room.modLine_line (r : Room) (l k : LineId) (g : Line → Line) :
    (r.modLine l g).line k = if k = l then g (r.line k) else r.line k := by
  unfold Room.modLine; rw [Room.setLine_line]; split
  · next h => rw [h]
  · rfl
@[simp] theorem Room.modLine_twice (r : Room) (l : LineId) (g h : Line → Line) :
    (r.modLine l g).modLine l h = r.modLine l fun y => h (g y) := by
  simp [Room.modLine]

@[simp] theorem Room.modJob_attn (r : Room) (i : JobId) (g : Job → Job) : (r.modJob i g).attn = r.attn := by
  unfold Room.modJob; split <;> rfl
@[simp] theorem Room.modJob_freeEntries (r : Room) (i : JobId) (g : Job → Job) :
    (r.modJob i g).freeEntries = r.freeEntries := by
  unfold Room.modJob; split <;> rfl
@[simp] theorem Room.modJob_store (r : Room) (i : JobId) (g : Job → Job) : (r.modJob i g).store = r.store := by
  unfold Room.modJob; split <;> rfl
@[simp] theorem Room.modJob_stallTimeout (r : Room) (i : JobId) (g : Job → Job) :
    (r.modJob i g).stallTimeout = r.stallTimeout := by
  unfold Room.modJob; split <;> rfl
@[simp] theorem Room.modJob_bayQueues (r : Room) (i : JobId) (g : Job → Job) :
    (r.modJob i g).bayQueues = r.bayQueues := by
  unfold Room.modJob; split <;> rfl
@[simp] theorem Room.modJob_lineQueues (r : Room) (i : JobId) (g : Job → Job) :
    (r.modJob i g).lineQueues = r.lineQueues := by
  unfold Room.modJob; split <;> rfl
@[simp] theorem Room.modJob_lines (r : Room) (i : JobId) (g : Job → Job) : (r.modJob i g).lines = r.lines := by
  unfold Room.modJob; split <;> rfl
@[simp] theorem Room.modJob_meter (r : Room) (i : JobId) (g : Job → Job) : (r.modJob i g).meter = r.meter := by
  unfold Room.modJob; split <;> rfl
@[simp] theorem Room.modJob_accounts (r : Room) (i : JobId) (g : Job → Job) : (r.modJob i g).accounts = r.accounts := by
  unfold Room.modJob; split <;> rfl
@[simp] theorem Room.modJob_snapshots (r : Room) (i : JobId) (g : Job → Job) :
    (r.modJob i g).snapshots = r.snapshots := by
  unfold Room.modJob; split <;> rfl
@[simp] theorem Room.modJob_profiles (r : Room) (i : JobId) (g : Job → Job) : (r.modJob i g).profiles = r.profiles := by
  unfold Room.modJob; split <;> rfl
@[simp] theorem Room.modJob_ms (r : Room) (i : JobId) (g : Job → Job) : (r.modJob i g).ms = r.ms := by
  unfold Room.modJob; split <;> rfl
@[simp] theorem Room.modJob_floor (r : Room) (i : JobId) (g : Job → Job) : (r.modJob i g).floor = r.floor := by
  unfold Room.modJob; split <;> rfl
@[simp] theorem Room.modJob_line (r : Room) (i : JobId) (g : Job → Job) (k : LineId) :
    (r.modJob i g).line k = r.line k := by
  unfold Room.modJob; split <;> rfl
@[simp] theorem Room.modJob_account (r : Room) (i : JobId) (g : Job → Job) (k : AcctId) :
    (r.modJob i g).account k = r.account k := by
  unfold Room.modJob; split <;> rfl
@[simp] theorem Room.modJob_snapshot (r : Room) (i : JobId) (g : Job → Job) (k : AcctId) :
    (r.modJob i g).snapshot k = r.snapshot k := by
  unfold Room.modJob; split <;> rfl
theorem Room.modJob_job (r : Room) (i k : JobId) (g : Job → Job) :
    (r.modJob i g).job k = if k = i then (r.job k).map g else r.job k := by
  unfold Room.modJob; split
  · next x hx => rw [Room.setJob_job]; split
                 · next h => rw [h, hx]; rfl
                 · rfl
  · next hx => split
               · next h => rw [h, hx]; rfl
               · rfl

@[simp] theorem Room.modAccount_attn (r : Room) (i : AcctId) (g : Account → Account) :
    (r.modAccount i g).attn = r.attn := by
  unfold Room.modAccount; split <;> rfl
@[simp] theorem Room.modAccount_jobs (r : Room) (i : AcctId) (g : Account → Account) :
    (r.modAccount i g).jobs = r.jobs := by
  unfold Room.modAccount; split <;> rfl
@[simp] theorem Room.modAccount_freeEntries (r : Room) (i : AcctId) (g : Account → Account) :
    (r.modAccount i g).freeEntries = r.freeEntries := by
  unfold Room.modAccount; split <;> rfl
@[simp] theorem Room.modAccount_store (r : Room) (i : AcctId) (g : Account → Account) :
    (r.modAccount i g).store = r.store := by
  unfold Room.modAccount; split <;> rfl
@[simp] theorem Room.modAccount_stallTimeout (r : Room) (i : AcctId) (g : Account → Account) :
    (r.modAccount i g).stallTimeout = r.stallTimeout := by
  unfold Room.modAccount; split <;> rfl
@[simp] theorem Room.modAccount_bayQueues (r : Room) (i : AcctId) (g : Account → Account) :
    (r.modAccount i g).bayQueues = r.bayQueues := by
  unfold Room.modAccount; split <;> rfl
@[simp] theorem Room.modAccount_lineQueues (r : Room) (i : AcctId) (g : Account → Account) :
    (r.modAccount i g).lineQueues = r.lineQueues := by
  unfold Room.modAccount; split <;> rfl
@[simp] theorem Room.modAccount_lines (r : Room) (i : AcctId) (g : Account → Account) :
    (r.modAccount i g).lines = r.lines := by
  unfold Room.modAccount; split <;> rfl
@[simp] theorem Room.modAccount_meter (r : Room) (i : AcctId) (g : Account → Account) :
    (r.modAccount i g).meter = r.meter := by
  unfold Room.modAccount; split <;> rfl
@[simp] theorem Room.modAccount_snapshots (r : Room) (i : AcctId) (g : Account → Account) :
    (r.modAccount i g).snapshots = r.snapshots := by
  unfold Room.modAccount; split <;> rfl
@[simp] theorem Room.modAccount_profiles (r : Room) (i : AcctId) (g : Account → Account) :
    (r.modAccount i g).profiles = r.profiles := by
  unfold Room.modAccount; split <;> rfl
@[simp] theorem Room.modAccount_ms (r : Room) (i : AcctId) (g : Account → Account) : (r.modAccount i g).ms = r.ms := by
  unfold Room.modAccount; split <;> rfl
@[simp] theorem Room.modAccount_floor (r : Room) (i : AcctId) (g : Account → Account) :
    (r.modAccount i g).floor = r.floor := by
  unfold Room.modAccount; split <;> rfl
@[simp] theorem Room.modAccount_line (r : Room) (i : AcctId) (g : Account → Account) (k : LineId) :
    (r.modAccount i g).line k = r.line k := by
  unfold Room.modAccount; split <;> rfl
@[simp] theorem Room.modAccount_job (r : Room) (i : AcctId) (g : Account → Account) (k : JobId) :
    (r.modAccount i g).job k = r.job k := by
  unfold Room.modAccount; split <;> rfl
@[simp] theorem Room.modAccount_snapshot (r : Room) (i : AcctId) (g : Account → Account) (k : AcctId) :
    (r.modAccount i g).snapshot k = r.snapshot k := by
  unfold Room.modAccount; split <;> rfl
theorem Room.modAccount_account (r : Room) (i k : AcctId) (g : Account → Account) :
    (r.modAccount i g).account k = if k = i then (r.account k).map g else r.account k := by
  unfold Room.modAccount; split
  · next x hx => rw [Room.setAccount_account]; split
                 · next h => rw [h, hx]; rfl
                 · rfl
  · next hx => split
               · next h => rw [h, hx]; rfl
               · rfl

/-! ## `Room.mark`, `Room.dropKey`, `Room.setQueue` -/

@[simp] theorem Room.mark_jobs (r : Room) (c : Source) (m : Mark) : (r.mark c m).jobs = r.jobs := rfl
@[simp] theorem Room.dropKey_jobs (r : Room) (c : Source) : (r.dropKey c).jobs = r.jobs := rfl
@[simp] theorem Room.mark_freeEntries (r : Room) (c : Source) (m : Mark) :
    (r.mark c m).freeEntries = r.freeEntries := rfl
@[simp] theorem Room.dropKey_freeEntries (r : Room) (c : Source) : (r.dropKey c).freeEntries = r.freeEntries := rfl
@[simp] theorem Room.mark_store (r : Room) (c : Source) (m : Mark) : (r.mark c m).store = r.store := rfl
@[simp] theorem Room.dropKey_store (r : Room) (c : Source) : (r.dropKey c).store = r.store := rfl
@[simp] theorem Room.mark_stallTimeout (r : Room) (c : Source) (m : Mark) :
    (r.mark c m).stallTimeout = r.stallTimeout := rfl
@[simp] theorem Room.dropKey_stallTimeout (r : Room) (c : Source) : (r.dropKey c).stallTimeout = r.stallTimeout := rfl
@[simp] theorem Room.mark_bayQueues (r : Room) (c : Source) (m : Mark) : (r.mark c m).bayQueues = r.bayQueues := rfl
@[simp] theorem Room.dropKey_bayQueues (r : Room) (c : Source) : (r.dropKey c).bayQueues = r.bayQueues := rfl
@[simp] theorem Room.mark_lineQueues (r : Room) (c : Source) (m : Mark) : (r.mark c m).lineQueues = r.lineQueues := rfl
@[simp] theorem Room.dropKey_lineQueues (r : Room) (c : Source) : (r.dropKey c).lineQueues = r.lineQueues := rfl
@[simp] theorem Room.mark_lines (r : Room) (c : Source) (m : Mark) : (r.mark c m).lines = r.lines := rfl
@[simp] theorem Room.dropKey_lines (r : Room) (c : Source) : (r.dropKey c).lines = r.lines := rfl
@[simp] theorem Room.mark_meter (r : Room) (c : Source) (m : Mark) : (r.mark c m).meter = r.meter := rfl
@[simp] theorem Room.dropKey_meter (r : Room) (c : Source) : (r.dropKey c).meter = r.meter := rfl
@[simp] theorem Room.mark_accounts (r : Room) (c : Source) (m : Mark) : (r.mark c m).accounts = r.accounts := rfl
@[simp] theorem Room.dropKey_accounts (r : Room) (c : Source) : (r.dropKey c).accounts = r.accounts := rfl
@[simp] theorem Room.mark_snapshots (r : Room) (c : Source) (m : Mark) : (r.mark c m).snapshots = r.snapshots := rfl
@[simp] theorem Room.dropKey_snapshots (r : Room) (c : Source) : (r.dropKey c).snapshots = r.snapshots := rfl
@[simp] theorem Room.mark_profiles (r : Room) (c : Source) (m : Mark) : (r.mark c m).profiles = r.profiles := rfl
@[simp] theorem Room.dropKey_profiles (r : Room) (c : Source) : (r.dropKey c).profiles = r.profiles := rfl
@[simp] theorem Room.mark_ms (r : Room) (c : Source) (m : Mark) : (r.mark c m).ms = r.ms := rfl
@[simp] theorem Room.dropKey_ms (r : Room) (c : Source) : (r.dropKey c).ms = r.ms := rfl
@[simp] theorem Room.mark_floor (r : Room) (c : Source) (m : Mark) : (r.mark c m).floor = r.floor := rfl
@[simp] theorem Room.dropKey_floor (r : Room) (c : Source) : (r.dropKey c).floor = r.floor := rfl
@[simp] theorem Room.mark_line (r : Room) (c : Source) (m : Mark) (k : LineId) : (r.mark c m).line k = r.line k := rfl
@[simp] theorem Room.dropKey_line (r : Room) (c : Source) (k : LineId) : (r.dropKey c).line k = r.line k := rfl
@[simp] theorem Room.mark_job (r : Room) (c : Source) (m : Mark) (k : JobId) : (r.mark c m).job k = r.job k := rfl
@[simp] theorem Room.dropKey_job (r : Room) (c : Source) (k : JobId) : (r.dropKey c).job k = r.job k := rfl
@[simp] theorem Room.mark_account (r : Room) (c : Source) (m : Mark) (k : AcctId) :
    (r.mark c m).account k = r.account k := rfl
@[simp] theorem Room.dropKey_account (r : Room) (c : Source) (k : AcctId) : (r.dropKey c).account k = r.account k := rfl
@[simp] theorem Room.mark_snapshot (r : Room) (c : Source) (m : Mark) (k : AcctId) :
    (r.mark c m).snapshot k = r.snapshot k := rfl
@[simp] theorem Room.dropKey_snapshot (r : Room) (c : Source) (k : AcctId) :
    (r.dropKey c).snapshot k = r.snapshot k := rfl
@[simp] theorem Room.mark_attn (r : Room) (c : Source) (m : Mark) : (r.mark c m).attn = putKey c m r.attn := rfl
@[simp] theorem Room.setQueue_attn (r : Room) (t : Target) (q : List JobId) :
    (r.setQueue t q).attn = r.attn := by cases t <;> rfl
@[simp] theorem Room.setQueue_jobs (r : Room) (t : Target) (q : List JobId) :
    (r.setQueue t q).jobs = r.jobs := by cases t <;> rfl
@[simp] theorem Room.setQueue_freeEntries (r : Room) (t : Target) (q : List JobId) :
    (r.setQueue t q).freeEntries = r.freeEntries := by cases t <;> rfl
@[simp] theorem Room.setQueue_store (r : Room) (t : Target) (q : List JobId) :
    (r.setQueue t q).store = r.store := by cases t <;> rfl
@[simp] theorem Room.setQueue_stallTimeout (r : Room) (t : Target) (q : List JobId) :
    (r.setQueue t q).stallTimeout = r.stallTimeout := by cases t <;> rfl
@[simp] theorem Room.setQueue_lines (r : Room) (t : Target) (q : List JobId) :
    (r.setQueue t q).lines = r.lines := by cases t <;> rfl
@[simp] theorem Room.setQueue_meter (r : Room) (t : Target) (q : List JobId) :
    (r.setQueue t q).meter = r.meter := by cases t <;> rfl
@[simp] theorem Room.setQueue_accounts (r : Room) (t : Target) (q : List JobId) :
    (r.setQueue t q).accounts = r.accounts := by cases t <;> rfl
@[simp] theorem Room.setQueue_snapshots (r : Room) (t : Target) (q : List JobId) :
    (r.setQueue t q).snapshots = r.snapshots := by cases t <;> rfl
@[simp] theorem Room.setQueue_profiles (r : Room) (t : Target) (q : List JobId) :
    (r.setQueue t q).profiles = r.profiles := by cases t <;> rfl
@[simp] theorem Room.setQueue_ms (r : Room) (t : Target) (q : List JobId) :
    (r.setQueue t q).ms = r.ms := by cases t <;> rfl
@[simp] theorem Room.setQueue_floor (r : Room) (t : Target) (q : List JobId) :
    (r.setQueue t q).floor = r.floor := by cases t <;> rfl
@[simp] theorem Room.setQueue_line (r : Room) (t : Target) (q : List JobId) (k : LineId) :
    (r.setQueue t q).line k = r.line k := by cases t <;> rfl
@[simp] theorem Room.setQueue_job (r : Room) (t : Target) (q : List JobId) (k : JobId) :
    (r.setQueue t q).job k = r.job k := by cases t <;> rfl
@[simp] theorem Room.setQueue_account (r : Room) (t : Target) (q : List JobId) (k : AcctId) :
    (r.setQueue t q).account k = r.account k := by cases t <;> rfl
@[simp] theorem Room.setQueue_snapshot (r : Room) (t : Target) (q : List JobId) (k : AcctId) :
    (r.setQueue t q).snapshot k = r.snapshot k := by cases t <;> rfl
@[simp] theorem Room.setQueue_same (r : Room) (t : Target) (q : List JobId) : (r.setQueue t q).queue t = q := by
  cases t <;> simp [Room.setQueue, Room.queue, get_eq]
theorem Room.setQueue_other (r : Room) (t u : Target) (q : List JobId) (h : u ≠ t) :
    (r.setQueue t q).queue u = r.queue u := by
  cases t with
  | bay b =>
    cases u with
    | bay c =>
      have : b.val ≠ c.val := fun e => h (congrArg Target.bay (Fin.ext e.symm))
      simp [Room.setQueue, Room.queue, get_eq, this]
    | line m => rfl
  | line l =>
    cases u with
    | bay c => rfl
    | line m =>
      have : l.val ≠ m.val := fun e => h (congrArg Target.line (Fin.ext e.symm))
      simp [Room.setQueue, Room.queue, get_eq, this]

end Sys2Proof.Machine
end

