-- ==== Sys2Proof/Laws/Keeps.lean ====
section
/-! SUPPORT. What every shared operation of the room leaves alone: the configuration, the Meter Unit's device-wide
state, the millisecond counter and the filtered inputs. One lemma per operation, cited in place of unfolding it. -/

namespace Sys2Proof.Machine

/-- `r'` differs from `r` in nothing that is configured, and not in the meter's device-wide state, the millisecond
counter, the pattern tables or the filtered inputs. -/
structure Room.Keeps (r r' : Room) : Prop where
  stallTimeout : r'.stallTimeout = r.stallTimeout
  profiles : r'.profiles = r.profiles
  ms : r'.ms = r.ms
  meter : r'.meter = r.meter
  patterns : r'.floor.patterns = r.floor.patterns
  levelMap : r'.floor.levelMap = r.floor.levelMap
  ack : r'.floor.ack = r.floor.ack
  shift : r'.floor.shift = r.floor.shift
  strap : r'.store.strap = r.store.strap
  lines : ∀ l, (r'.line l).settingsOf = (r.line l).settingsOf

theorem Room.Keeps.refl (r : Room) : r.Keeps r := ⟨rfl, rfl, rfl, rfl, rfl, rfl, rfl, rfl, rfl, fun _ => rfl⟩

theorem Room.Keeps.trans {a b c : Room} (h : a.Keeps b) (k : b.Keeps c) : a.Keeps c :=
  ⟨k.stallTimeout.trans h.stallTimeout, k.profiles.trans h.profiles, k.ms.trans h.ms, k.meter.trans h.meter,
    k.patterns.trans h.patterns, k.levelMap.trans h.levelMap, k.ack.trans h.ack, k.shift.trans h.shift,
    k.strap.trans h.strap, fun l => (k.lines l).trans (h.lines l)⟩

/-- Equal lines give equal settings. -/
theorem Room.line_eq_of_lines {a b : Room} (h : b.lines = a.lines) (l : LineId) : b.line l = a.line l := by
  simp [Room.line, h]

/-- Rooms with the same configuration, whose lines keep their settings, give the same settings of the part. -/
theorem Room.Keeps.settings {a b : Room} (h : a.Keeps b) (p : Part) :
    ({ p with room := b } : Part).settings = ({ p with room := a } : Part).settings := by
  have hl : b.lines.toList.map Line.settingsOf = a.lines.toList.map Line.settingsOf := by
    apply List.ext_getElem
    · simp
    · intro i h1 h2
      have hi : i < 24 := by simpa using h1
      have := h.lines ⟨i, hi⟩
      simpa [Room.line, get_eq] using this
  simp [Part.settings, h.stallTimeout, h.profiles, h.meter, h.patterns, h.levelMap, h.strap, hl]

/-- A fold of operations that each keep the configuration keeps it. -/
theorem Room.Keeps.foldl {α : Type} {f : Room → α → Room} (h : ∀ (r : Room) (a : α), r.Keeps (f r a)) :
    ∀ (as : List α) (r : Room), r.Keeps (as.foldl f r)
  | [], r => Room.Keeps.refl r
  | a :: as, r => (h r a).trans (Room.Keeps.foldl h as (f r a))

/-! ## Lines -/

@[simp] theorem Line.beginFrame_settings (y : Line) (f : OutFrame) : (y.beginFrame f).settingsOf = y.settingsOf := by
  unfold Line.beginFrame; split <;> rfl

@[simp] theorem Line.offer_settings (y : Line) : y.offer.settingsOf = y.settingsOf := by
  unfold Line.offer
  split
  · rfl
  · split
    · rfl
    · split
      · simp
      · split
        · rw [Line.beginFrame_settings]; rfl
        · rfl

@[simp] theorem Line.push_settings (y : Line) (f : OutFrame) : (y.push f).settingsOf = y.settingsOf := by
  unfold Line.push; rw [Line.offer_settings]; rfl

@[simp] theorem Line.pushOrHold_settings (y : Line) (f : OutFrame) : (y.pushOrHold f).settingsOf = y.settingsOf := by
  unfold Line.pushOrHold; split
  · rfl
  · simp

@[simp] theorem Line.holdFrames_settings (y : Line) : y.holdFrames.settingsOf = y.settingsOf := rfl
@[simp] theorem Line.sync_settings (y : Line) : y.sync.settingsOf = y.settingsOf := rfl
@[simp] theorem Line.release_settings (y : Line) : y.release.settingsOf = y.settingsOf := rfl
@[simp] theorem Line.stopFailover_settings (y : Line) : y.stopFailover.settingsOf = y.settingsOf := rfl
@[simp] theorem Line.dropFrame_settings (y : Line) : y.dropFrame.settingsOf = y.settingsOf := rfl
@[simp] theorem Line.clearShift_settings (y : Line) : y.clearShift.settingsOf = y.settingsOf := rfl
@[simp] theorem Line.dropped_settings (y : Line) : y.dropped.settingsOf = y.settingsOf := rfl
@[simp] theorem Line.torn_settings (y : Line) : y.torn.settingsOf = y.settingsOf := rfl
@[simp] theorem Line.enterDetached_settings (y : Line) : y.enterDetached.settingsOf = y.settingsOf := rfl
@[simp] theorem Line.enterLoopback_settings (y : Line) : y.enterLoopback.settingsOf = y.settingsOf := rfl
@[simp] theorem Line.tick_settings (y : Line) : y.tick.settingsOf = y.settingsOf := rfl

@[simp] theorem Line.heard_settings (y : Line) : y.heard.settingsOf = y.settingsOf := by
  unfold Line.heard; split <;> rfl

@[simp] theorem Line.emptied_settings (y : Line) : y.emptied.settingsOf = y.settingsOf := by
  unfold Line.emptied; rw [Line.offer_settings]; rfl

@[simp] theorem Line.opened_settings (y : Line) (j : JobId) (a : AcctId) (e : PageEntry) (copy page charge : Nat) :
    (y.opened j a e copy page charge).settingsOf = y.settingsOf := by
  unfold Line.opened; rw [Line.push_settings]; rfl

@[simp] theorem Line.leaveAlert_settings (y : Line) (state : LineState) (frames : List OutFrame) :
    (y.leaveAlert state frames).settingsOf = y.settingsOf := by
  unfold Line.leaveAlert; rw [Line.sync_settings, Line.offer_settings]; rfl

@[simp] theorem Line.restart_settings (y : Line) : y.restart.settingsOf = y.settingsOf := by
  obtain ⟨state⟩ := y
  cases state <;> rfl

@[simp] theorem Line.startUp_settings (y : Line) : y.startUp.settingsOf = y.settingsOf := by
  unfold Line.startUp; split <;> rfl

/-! ## Tables and marks -/

theorem Room.keeps_modLine (r : Room) (l : LineId) {f : Line → Line}
    (h : (f (r.line l)).settingsOf = (r.line l).settingsOf) : r.Keeps (r.modLine l f) :=
  ⟨rfl, rfl, rfl, rfl, rfl, rfl, rfl, rfl, rfl, fun k => by rw [Room.modLine_line]; split <;> simp_all⟩

theorem Room.keeps_setLine (r : Room) (l : LineId) {y : Line} (h : y.settingsOf = (r.line l).settingsOf) :
    r.Keeps (r.setLine l y) := r.keeps_modLine l (f := fun _ => y) h

theorem Room.keeps_setJob (r : Room) (j : JobId) (x : Option Job) : r.Keeps (r.setJob j x) :=
  ⟨rfl, rfl, rfl, rfl, rfl, rfl, rfl, rfl, rfl, fun _ => rfl⟩

theorem Room.keeps_modJob (r : Room) (j : JobId) (f : Job → Job) : r.Keeps (r.modJob j f) := by
  unfold Room.modJob; split
  · exact r.keeps_setJob j _
  · exact Room.Keeps.refl r

theorem Room.keeps_setAccount (r : Room) (a : AcctId) (x : Option Account) : r.Keeps (r.setAccount a x) :=
  ⟨rfl, rfl, rfl, rfl, rfl, rfl, rfl, rfl, rfl, fun _ => rfl⟩

theorem Room.keeps_modAccount (r : Room) (a : AcctId) (f : Account → Account) : r.Keeps (r.modAccount a f) := by
  unfold Room.modAccount; split
  · exact r.keeps_setAccount a _
  · exact Room.Keeps.refl r

theorem Room.keeps_setSnapshot (r : Room) (a : AcctId) (x : Option Snapshot) : r.Keeps (r.setSnapshot a x) :=
  ⟨rfl, rfl, rfl, rfl, rfl, rfl, rfl, rfl, rfl, fun _ => rfl⟩

theorem Room.keeps_mark (r : Room) (c : Source) (m : Mark) : r.Keeps (r.mark c m) :=
  ⟨rfl, rfl, rfl, rfl, rfl, rfl, rfl, rfl, rfl, fun _ => rfl⟩

theorem Room.keeps_dropKey (r : Room) (c : Source) : r.Keeps (r.dropKey c) :=
  ⟨rfl, rfl, rfl, rfl, rfl, rfl, rfl, rfl, rfl, fun _ => rfl⟩

theorem Room.keeps_setQueue (r : Room) (t : Target) (q : List JobId) : r.Keeps (r.setQueue t q) := by
  cases t <;> exact ⟨rfl, rfl, rfl, rfl, rfl, rfl, rfl, rfl, rfl, fun _ => rfl⟩

/-! ## Floor -/

@[simp] theorem Floor.setBeacon_patterns (f : Floor) (b : BayId) (k : Beacon) :
    (f.setBeacon b k).patterns = f.patterns := rfl

theorem Room.keeps_reselect (r : Room) (b : BayId) : r.Keeps (r.reselect b) :=
  ⟨rfl, rfl, rfl, rfl, rfl, rfl, rfl, rfl, rfl, fun _ => rfl⟩

theorem Room.keeps_refreshFloor (r : Room) : r.Keeps r.refreshFloor := by
  unfold Room.refreshFloor
  have h := Room.Keeps.foldl Room.keeps_reselect (List.finRange 8) r
  generalize (List.finRange 8).foldl Room.reselect r = r1 at h
  exact h.trans ⟨rfl, rfl, rfl, rfl, rfl, rfl, rfl, rfl, rfl, fun _ => rfl⟩

/-! ## Store -/

@[simp] theorem Store.release_strap (s : Store) (chain : List Nat) : (s.release chain).strap = s.strap := by
  unfold Store.release; split
  · rfl
  · simp only []; split <;> rfl

theorem Room.keeps_returnEntry (r : Room) (e : PageEntry) : r.Keeps (r.returnEntry e) :=
  ⟨rfl, rfl, rfl, rfl, rfl, rfl, rfl, rfl, Store.release_strap _ _, fun _ => rfl⟩

theorem Room.keeps_returnEntries (r : Room) (es : List PageEntry) : r.Keeps (r.returnEntries es) :=
  Room.Keeps.foldl Room.keeps_returnEntry es r

theorem Room.keeps_discardOpen (r : Room) (x : Job) : r.Keeps (r.discardOpen x) := by
  unfold Room.discardOpen; split
  · exact r.keeps_returnEntry _
  · exact Room.Keeps.refl r

theorem Room.keeps_takeBlock {r r' : Room} {b : Nat} (h : r.takeBlock = some (b, r')) : r.Keeps r' := by
  unfold Room.takeBlock at h
  split at h
  · cases h
  · simp only [] at h
    split at h <;> cases h <;> exact ⟨rfl, rfl, rfl, rfl, rfl, rfl, rfl, rfl, rfl, fun _ => rfl⟩

/-! ## Queues and accounts -/

theorem Room.keeps_enterQueue (r : Room) (j : JobId) (x : Job) : r.Keeps (r.enterQueue j x) := r.keeps_setQueue _ _

theorem Room.keeps_leaveQueue (r : Room) (j : JobId) (x : Job) : r.Keeps (r.leaveQueue j x) := r.keeps_setQueue _ _

theorem Room.keeps_evalWatermark (r : Room) (a : AcctId) : r.Keeps (r.evalWatermark a) := by
  unfold Room.evalWatermark; repeat' split
  all_goals exact ⟨rfl, rfl, rfl, rfl, rfl, rfl, rfl, rfl, rfl, fun _ => rfl⟩

theorem Room.keeps_reserve (r : Room) (a : AcctId) (charge : Nat) : r.Keeps (r.reserve a charge) :=
  (r.keeps_modAccount a _).trans (Room.keeps_evalWatermark _ a)

theorem Room.keeps_quoteQueued (r : Room) (j : JobId) (x : Job) : r.Keeps (r.quoteQueued j x).1 := by
  unfold Room.quoteQueued; repeat' split
  all_goals exact ⟨rfl, rfl, rfl, rfl, rfl, rfl, rfl, rfl, rfl, fun _ => rfl⟩

/-! ## Opening and dispatch -/

theorem Room.keeps_stallJob (r : Room) (l : LineId) (j : JobId) (reason : StallReason) :
    r.Keeps (r.stallJob l j reason) :=
  (r.keeps_modJob j _).trans (Room.keeps_modLine _ l rfl)

theorem Room.keeps_openOrStall (r : Room) (l : LineId) (j : JobId) (x : Job) (e : PageEntry) (copy page : Nat) :
    r.Keeps (r.openOrStall l j x e copy page) := by
  unfold Room.openOrStall; split
  · exact Room.Keeps.refl r
  · simp only []; split
    · exact ((r.keeps_reserve _ _).trans (Room.keeps_setJob _ _ _)).trans
        (Room.keeps_modLine _ l (Line.opened_settings _ _ _ _ _ _ _))
    · exact (r.keeps_mark _ _).trans (Room.keeps_stallJob _ _ _ _)

theorem Room.keeps_tryOpen (r : Room) (l : LineId) : r.Keeps (r.tryOpen l) := by
  unfold Room.tryOpen; repeat' split
  all_goals first
    | exact Room.Keeps.refl r
    | exact r.keeps_openOrStall _ _ _ _ _ _
    | exact r.keeps_stallJob _ _ _

theorem Room.keeps_sendOwedEnd (r : Room) (l : LineId) : r.Keeps (r.sendOwedEnd l) := by
  unfold Room.sendOwedEnd; split
  · exact r.keeps_modLine l ((Line.push_settings _ _).trans rfl)
  · exact Room.Keeps.refl r

theorem Room.keeps_drain (r : Room) (l : LineId) : r.Keeps (r.drain l) := by
  unfold Room.drain; split
  · exact r.keeps_sendOwedEnd l
  · exact Room.Keeps.refl r

theorem Room.keeps_bind (r : Room) (l : LineId) (j : JobId) (x : Job) : r.Keeps (r.bind l j x) := by
  unfold Room.bind
  refine Room.Keeps.trans ((r.keeps_leaveQueue j x).trans (Room.keeps_setJob _ _ _)) (Room.keeps_modLine _ l ?_)
  rw [Line.sync_settings, Line.push_settings]; rfl

theorem Room.keeps_searchQueue (l : LineId) : ∀ (js : List JobId) (r : Room), r.Keeps (Room.searchQueue l js r).1
  | [], r => Room.Keeps.refl r
  | j :: js, r => by
    unfold Room.searchQueue
    split
    · exact Room.keeps_searchQueue l js r
    · rename_i x _
      split
      · have h := r.keeps_quoteQueued j x
        split <;> rename_i heq <;> rw [heq] at h
        · exact h
        · exact h.trans (Room.keeps_searchQueue l js _)
      · exact Room.keeps_searchQueue l js r

theorem Room.keeps_arbiterLine (r : Room) (l : LineId) : r.Keeps (r.arbiterLine l) := by
  unfold Room.arbiterLine; split
  · have h := Room.keeps_searchQueue l (r.queue (.line l)) r
    split
    · rename_i heq; rw [heq] at h
      exact h.trans (Room.keeps_bind _ _ _ _)
    · rename_i r1 heq; rw [heq] at h
      have k := Room.keeps_searchQueue l (Room.bayQueueOf r1 l) r1
      split
      · rename_i heq'; rw [heq'] at k
        exact (h.trans k).trans (Room.keeps_bind _ _ _ _)
      · rename_i heq'; rw [heq'] at k
        exact h.trans k
  · exact Room.Keeps.refl r

theorem Room.keeps_arbiterJob (r : Room) (j : JobId) : r.Keeps (r.arbiterJob j) := by
  unfold Room.arbiterJob; split
  · exact Room.Keeps.refl r
  · split
    · split
      · exact Room.Keeps.refl r
      · rename_i x _ _ _ _ _
        have h := r.keeps_quoteQueued j x
        split <;> rename_i heq <;> rw [heq] at h
        · exact h.trans (Room.keeps_bind _ _ _ _)
        · exact h
    · exact Room.Keeps.refl r

theorem Room.keeps_queueJob (r : Room) (j : JobId) (x : Job) : r.Keeps (r.queueJob j x) :=
  ((r.keeps_setJob j _).trans (Room.keeps_enterQueue _ _ _)).trans (Room.keeps_arbiterJob _ _)

theorem Room.keeps_recheckStalled (a : AcctId) (r : Room) (l : LineId) : r.Keeps (r.recheckStalled a l) := by
  unfold Room.recheckStalled; repeat' split
  all_goals first
    | exact Room.Keeps.refl r
    | exact ((r.keeps_setJob _ _).trans (Room.keeps_modLine _ l rfl)).trans (Room.keeps_tryOpen _ _)

theorem Room.keeps_recheckBlocked (a : AcctId) (r : Room) (j : JobId) : r.Keeps (r.recheckBlocked a j) := by
  unfold Room.recheckBlocked; split
  · exact Room.Keeps.refl r
  · rename_i x _
    split
    · have h := r.keeps_quoteQueued j x
      split <;> rename_i heq <;> rw [heq] at h
      · exact h.trans (Room.keeps_arbiterJob _ _)
      · exact h
    · exact Room.Keeps.refl r

theorem Room.keeps_reexamine (r : Room) (a : AcctId) : r.Keeps (r.reexamine a) :=
  (Room.Keeps.foldl (Room.keeps_recheckStalled a) (List.finRange 24) r).trans
    (Room.Keeps.foldl (Room.keeps_recheckBlocked a) (List.finRange 256) _)

theorem Room.keeps_becomeIdle (r : Room) (l : LineId) : r.Keeps (r.becomeIdle l) :=
  (r.keeps_modLine l rfl).trans (Room.keeps_arbiterLine _ _)

theorem Room.keeps_endJob (r : Room) (l : LineId) (j : JobId) (x : Job) : r.Keeps (r.endJob l j x) := by
  unfold Room.endJob
  split
  · refine Room.Keeps.trans (Room.Keeps.trans ?_ (Room.keeps_modLine _ l (Line.push_settings _ _)))
      (Room.keeps_becomeIdle _ _)
    exact (r.keeps_setJob _ _).trans (Room.keeps_mark _ _ _)
  · split
    · refine Room.Keeps.trans (Room.Keeps.trans ?_ (Room.keeps_modLine _ l (Line.push_settings _ _)))
        (Room.keeps_becomeIdle _ _)
      exact (r.keeps_setJob _ _).trans (Room.keeps_mark _ _ _)
    · refine Room.Keeps.trans (Room.Keeps.trans ?_ (Room.keeps_modLine _ l (Line.push_settings _ _)))
        (Room.keeps_becomeIdle _ _)
      exact r.keeps_setJob _ _

theorem Room.keeps_proceed (r : Room) (l : LineId) : r.Keeps (r.proceed l) := by
  unfold Room.proceed; repeat' split
  all_goals first
    | exact Room.Keeps.refl r
    | exact r.keeps_endJob _ _ _
    | exact (r.keeps_tryOpen l).trans (Room.keeps_drain _ _)

theorem Room.keeps_lineCompleted (r : Room) (l : LineId) : r.Keeps (r.lineCompleted l) := by
  have h : r.Keeps (if (r.line l).endSent then r else r.modLine l fun y => y.pushOrHold (.jobEnd .complete)) := by
    split
    · exact Room.Keeps.refl r
    · exact r.keeps_modLine l (Line.pushOrHold_settings _ _)
  unfold Room.lineCompleted
  simp only []
  split
  · exact h.trans (Room.keeps_becomeIdle _ _)
  · exact h.trans (Room.keeps_becomeIdle _ _)
  · exact h.trans (Room.keeps_modLine _ l rfl)

theorem Room.keeps_complete (r : Room) (j : JobId) (x : Job) : r.Keeps (r.complete j x) := by
  have h := (((r.keeps_leaveQueue j x).trans (Room.keeps_returnEntries _ x.pages)).trans
    (Room.keeps_setJob _ j (some { x with
      state := .done, bound := none, holdReason := none, holdPending := false, stallReason := none, blocked := false,
      cutPending := false, pages := [] }))).trans (Room.keeps_mark _ (.job j) (.done x.confirmed))
  unfold Room.complete
  simp only []
  split
  · exact h.trans (Room.keeps_lineCompleted _ _)
  · exact h

/-! ## Money -/

theorem Room.keeps_shiftAccount (r : Room) (a : AcctId) (x : Account) : r.Keeps (r.shiftAccount a x) :=
  ((r.keeps_setSnapshot a _).trans (Room.keeps_setAccount _ _ _)).trans (Room.keeps_evalWatermark _ _)

theorem Room.keeps_moveAccount (r : Room) (a : AcctId) (x : Account) : r.Keeps (r.moveAccount a x) :=
  (r.keeps_shiftAccount a x).trans (Room.keeps_reexamine _ _)

theorem Room.keeps_ensureMoved (r : Room) (a : AcctId) : r.Keeps (r.ensureMoved a) := by
  unfold Room.ensureMoved; split
  · split
    · exact r.keeps_moveAccount _ _
    · exact Room.Keeps.refl r
  · exact Room.Keeps.refl r

theorem Room.keeps_settleSnapshot (r : Room) (a : AcctId) : r.Keeps (r.settleSnapshot a) := by
  unfold Room.settleSnapshot; repeat' split
  all_goals exact ⟨rfl, rfl, rfl, rfl, rfl, rfl, rfl, rfl, rfl, fun _ => rfl⟩

theorem Room.keeps_scanAccount (r : Room) (a : AcctId) : r.Keeps (r.scanAccount a) := by
  unfold Room.scanAccount; split
  · split
    · exact Room.Keeps.refl r
    · exact r.keeps_moveAccount _ _
  · exact r.keeps_settleSnapshot _

theorem Room.keeps_meterConfirm (r : Room) (e : Entry) : r.Keeps (r.meterConfirm e) := by
  unfold Room.meterConfirm
  simp only []
  refine (r.keeps_ensureMoved e.account).trans ?_
  split
  · exact Room.Keeps.refl _
  · refine Room.Keeps.trans ?_ (Room.keeps_evalWatermark _ _)
    split
    · exact (Room.keeps_setAccount _ _ _).trans (Room.keeps_mark _ _ _)
    · exact Room.keeps_setAccount _ _ _

theorem Room.keeps_jobConfirm (r : Room) (e : Entry) : r.Keeps (r.jobConfirm e) := by
  unfold Room.jobConfirm
  split
  · exact Room.Keeps.refl r
  · simp only []
    split
    · exact r.keeps_setJob _ _
    · split
      · exact ((r.keeps_setJob _ _).trans (Room.keeps_returnEntries _ _)).trans (Room.keeps_complete _ _ _)
      · exact (r.keeps_setJob _ _).trans (Room.keeps_returnEntries _ _)

theorem Room.keeps_confirm (r : Room) (l : LineId) (e : Entry) : r.Keeps (r.confirm l e) :=
  ((r.keeps_modLine l rfl).trans (Room.keeps_meterConfirm _ e)).trans (Room.keeps_jobConfirm _ e)

theorem Room.keeps_confirmOldest (l : LineId) : ∀ (n : Nat) (r : Room), r.Keeps (r.confirmOldest l n)
  | 0, r => Room.Keeps.refl r
  | n + 1, r => by
    unfold Room.confirmOldest
    split
    · exact ((r.keeps_modLine l rfl).trans (Room.keeps_confirm _ _ _)).trans (Room.keeps_confirmOldest l n _)
    · exact Room.Keeps.refl r

theorem Room.keeps_releaseHeld (r : Room) (lost : List Entry) : r.Keeps (r.releaseHeld lost) :=
  (Room.Keeps.foldl (fun r e => r.keeps_modAccount e.account _) lost r).trans
    (Room.Keeps.foldl Room.keeps_evalWatermark (accountsOf lost) _)

theorem Room.keeps_tellReleased (r : Room) (lost : List Entry) : r.Keeps (r.tellReleased lost) :=
  Room.Keeps.foldl Room.keeps_reexamine _ r

/-! ## Losses and alerts -/

theorem Room.keeps_considerFailover (r : Room) (l : LineId) : r.Keeps (r.considerFailover l) := by
  unfold Room.considerFailover
  split
  · split
    · simp only []; split
      · exact r.keeps_modLine l rfl
      · exact Room.Keeps.refl r
    · exact Room.Keeps.refl r
  · exact Room.Keeps.refl r

theorem Room.keeps_takeFailover (r : Room) (l : LineId) : r.Keeps (r.takeFailover l) := by
  unfold Room.takeFailover
  split
  · split
    · split
      · simp only []; split
        · exact (r.keeps_modLine l rfl).trans (Room.keeps_setJob _ _ _)
        · exact ((r.keeps_modLine l rfl).trans (Room.keeps_mark _ _ _)).trans (Room.keeps_queueJob _ _ _)
      · exact Room.Keeps.refl r
    · exact Room.Keeps.refl r
  · exact Room.Keeps.refl r

theorem Room.keeps_failoverIfDue (r : Room) (l : LineId) : r.Keeps (r.failoverIfDue l) := by
  unfold Room.failoverIfDue; repeat' split
  all_goals first
    | exact Room.Keeps.refl r
    | exact r.keeps_takeFailover l

theorem Room.keeps_endRead (r : Room) (l : LineId) : r.Keeps (r.endRead l) := by
  unfold Room.endRead; split
  · simp only []; split
    · exact (r.keeps_modLine l rfl).trans (Room.keeps_returnEntry _ _)
    · exact r.keeps_modLine l rfl
  · exact Room.Keeps.refl r

theorem Room.keeps_resume (r : Room) (lost : List Entry) : r.Keeps (r.resume lost) := by
  unfold Room.resume; split
  · exact r.keeps_modJob _ _
  · exact Room.Keeps.refl r

theorem Room.keeps_loseWindow (r : Room) (l : LineId) : r.Keeps (r.loseWindow l) :=
  (((((r.keeps_endRead l).trans (Room.keeps_modLine _ l (Line.emptied_settings _))).trans
    (Room.keeps_releaseHeld _ _)).trans (Room.keeps_tellReleased _ _)).trans (Room.keeps_resume _ _))

theorem Room.keeps_suspendJob (r : Room) (l : LineId) : r.Keeps (r.suspendJob l) := by
  unfold Room.suspendJob; split
  · exact Room.Keeps.refl r
  · exact (r.keeps_modJob _ _).trans (Room.keeps_modLine _ l rfl)

theorem Room.keeps_openRecord (r : Room) (l : LineId) (k : CondKind) (d : Detail) : r.Keeps (r.openRecord l k d) :=
  ((((r.keeps_modLine l rfl).trans (Room.keeps_suspendJob _ l)).trans (Room.keeps_considerFailover _ l)).trans
    (Room.keeps_mark _ _ _)).trans (Room.keeps_refreshFloor _)

theorem Room.keeps_addCondition (r : Room) (l : LineId) (a : Alert) (k : CondKind) (d : Detail) :
    r.Keeps (r.addCondition l a k d) := by
  unfold Room.addCondition
  simp only []
  split
  · exact r.keeps_modLine l rfl
  · exact ((r.keeps_modLine l rfl).trans (Room.keeps_considerFailover _ l)).trans (Room.keeps_refreshFloor _)

theorem Room.keeps_handCondition (r : Room) (l : LineId) (k : CondKind) (d : Detail) :
    r.Keeps (r.handCondition l k d) := by
  unfold Room.handCondition; split
  · exact r.keeps_openRecord l k d
  · exact r.keeps_addCondition l _ k d

theorem Room.keeps_lossEvent (r : Room) (l : LineId) (k : CondKind) (d : Detail) : r.Keeps (r.lossEvent l k d) :=
  ((r.keeps_loseWindow l).trans (Room.keeps_failoverIfDue _ l)).trans (Room.keeps_handCondition _ l k d)

theorem Room.keeps_linkDown (r : Room) (l : LineId) : r.Keeps (r.linkDown l) := by
  unfold Room.linkDown; split
  · exact r.keeps_lossEvent l _ _
  · exact Room.Keeps.refl r

theorem Room.keeps_dropKind (r : Room) (l : LineId) (k : CondKind) : r.Keeps (r.dropKind l k) := by
  unfold Room.dropKind; split
  · exact r.keeps_modLine l rfl
  · exact Room.Keeps.refl r

theorem Room.keeps_closeRecord (r : Room) (l : LineId) (a : Alert) : r.Keeps (r.closeRecord l a) := by
  unfold Room.closeRecord
  simp only []
  refine (r.keeps_mark (.line l) (.alertClosed (r.ms - a.opened) .cleared)).trans ?_
  generalize r.mark (.line l) (.alertClosed (r.ms - a.opened) .cleared) = r1
  split
  · rename_i j _
    refine Room.Keeps.trans
      (Room.keeps_modJob r1 j fun x => if x.state = .suspended then { x with state := .active } else x) ?_
    generalize (r1.modJob j fun x => if x.state = .suspended then { x with state := .active } else x) = r2
    split
    · refine Room.Keeps.trans (Room.keeps_modLine r2 l ?_) (Room.keeps_refreshFloor _)
      exact (Line.leaveAlert_settings _ _ _)
    · refine Room.Keeps.trans (Room.Keeps.trans (Room.keeps_modLine r2 l ?_) (Room.keeps_refreshFloor _))
        (Room.keeps_proceed _ _)
      exact (Line.leaveAlert_settings _ _ _)
  · refine Room.Keeps.trans (Room.Keeps.trans (Room.keeps_modLine r1 l ?_) (Room.keeps_refreshFloor _))
      (Room.keeps_becomeIdle _ _)
    exact (Line.leaveAlert_settings _ _ _)

theorem Room.keeps_closeIfEmpty (r : Room) (l : LineId) : r.Keeps (r.closeIfEmpty l) := by
  unfold Room.closeIfEmpty; repeat' split
  all_goals first
    | exact Room.Keeps.refl r
    | exact r.keeps_closeRecord l _

end Sys2Proof.Machine
end

