-- ==== Sys2Proof/Laws/Marks.lean ====
section
/-! SUPPORT. What setting a mark does to the attention list (R179): the keys keep their order and stay distinct, no
key is left without a mark, and the mark stands on its source. -/

namespace Sys2Proof.Machine

theorem mem_putMark (m : Mark) : ∀ ms : List Mark, m ∈ putMark m ms
  | [] => by simp [putMark]
  | x :: xs => by
    unfold putMark; split
    · simp
    · split
      · simp
      · exact List.mem_cons_of_mem _ (mem_putMark m xs)

theorem putMark_ne_nil (m : Mark) (ms : List Mark) : putMark m ms ≠ [] :=
  List.ne_nil_of_mem (mem_putMark m ms)

theorem mem_of_mem_putMark {m b : Mark} : ∀ {ms : List Mark}, b ∈ putMark m ms → b = m ∨ b ∈ ms
  | [], h => by simpa [putMark] using h
  | x :: xs, h => by
    unfold putMark at h
    split at h
    · simpa using h
    · split at h
      · rcases List.mem_cons.1 h with h | h
        · exact .inl h
        · exact .inr (List.mem_cons_of_mem _ h)
      · rcases List.mem_cons.1 h with rfl | h
        · exact .inr List.mem_cons_self
        · exact (mem_of_mem_putMark h).imp id (List.mem_cons_of_mem _)

/-- A mark put among marks that stand in table order leaves them so. -/
theorem putMark_pairwise (m : Mark) : ∀ ms : List Mark, (ms.Pairwise fun a b => a.rank < b.rank) →
    (putMark m ms).Pairwise fun a b => a.rank < b.rank
  | [], _ => by simp [putMark]
  | x :: xs, h => by
    obtain ⟨hx, hxs⟩ := List.pairwise_cons.1 h
    unfold putMark
    split
    · rename_i hm
      exact List.Pairwise.cons (by
        intro b hb
        rcases List.mem_cons.1 hb with rfl | hb
        · exact hm
        · exact Nat.lt_trans hm (hx b hb)) h
    · split
      · rename_i hm
        exact List.Pairwise.cons (fun b hb => hm ▸ hx b hb) hxs
      · exact List.Pairwise.cons (fun b hb => by
          rcases mem_of_mem_putMark hb with rfl | hb
          · exact Nat.lt_of_le_of_ne (Nat.not_lt.1 ‹_›) (Ne.symm ‹_›)
          · exact hx b hb) (putMark_pairwise m xs hxs)

/-- Setting a mark keeps the sources in their order, a new one joining at the tail. -/
theorem putKey_sources (src : Source) (m : Mark) : ∀ ks : List Key,
    (putKey src m ks).map Key.src =
      if src ∈ ks.map Key.src then ks.map Key.src else ks.map Key.src ++ [src]
  | [] => rfl
  | k :: ks => by
    unfold putKey
    by_cases h : k.src = src
    · simp [h]
    · have ih := putKey_sources src m ks
      by_cases hs : src ∈ ks.map Key.src <;> simp_all [eq_comm]

/-- Setting a mark keeps the attention list sound. -/
theorem attnSound_putKey (src : Source) (m : Mark) (ks : List Key) (h : attnSound ks) : attnSound (putKey src m ks) := by
  refine ⟨?_, ?_⟩
  · rw [putKey_sources]; split
    · exact h.1
    · rename_i hs
      rw [List.nodup_append]
      refine ⟨h.1, List.nodup_singleton src, ?_⟩
      intro a ha b hb
      simp only [List.mem_singleton] at hb
      rintro rfl; exact hs (hb ▸ ha)
  · have hk := h.2
    clear h
    induction ks with
    | nil => simp [putKey]
    | cons k ks ih =>
      unfold putKey; split
      · intro x hx
        rcases List.mem_cons.1 hx with rfl | hx
        · exact ⟨putMark_ne_nil _ _, putMark_pairwise _ _ (hk _ List.mem_cons_self).2⟩
        · exact hk _ (List.mem_cons_of_mem _ hx)
      · intro x hx
        rcases List.mem_cons.1 hx with rfl | hx
        · exact hk _ List.mem_cons_self
        · exact ih (fun y hy => hk y (List.mem_cons_of_mem _ hy)) x hx

theorem attnSound_filter (p : Key → Bool) (ks : List Key) (h : attnSound ks) : attnSound (ks.filter p) :=
  ⟨h.1.sublist ((List.filter_sublist).map _), fun k hk => h.2 k (List.mem_of_mem_filter hk)⟩

/-- The mark just set stands on its source. -/
theorem Room.marked_mark (r : Room) (src : Source) (m : Mark) : (r.mark src m).marked src m := by
  unfold Room.marked Room.mark
  generalize r.attn = ks
  induction ks with
  | nil => exact ⟨_, List.mem_cons_self, rfl, List.mem_cons_self⟩
  | cons k ks ih =>
    simp only [putKey]
    split
    · rename_i h
      exact ⟨_, List.mem_cons_self, h, mem_putMark _ _⟩
    · obtain ⟨x, hx, h⟩ := ih
      exact ⟨x, List.mem_cons_of_mem _ hx, h⟩

end Sys2Proof.Machine
end

