-- ==== Sys2Proof/Laws/Serve.lean ====
section
/-! SUPPORT. What the row of a request kind does, said once: an answered request, a refusal by lifephase, a refusal by
the shape of the payload, and the cases in which nothing happens (R174, R175). -/

namespace Sys2Proof.Machine

theorem Asked.takeHead {s : State} {k : ReqKind} {tag : Byte} {payload : List Byte} {rest : List ReqFrame}
    (h : Asked s k tag payload rest) :
    s.part.link.takeHead =
      some ({ kind := k.code, tag := tag, payload := payload, verdict := .good },
        { s.part.link with buffer := rest }) := by
  obtain ⟨h1, h2, h3, h4⟩ := h
  have h5 : s.part.link.canTake = true := by
    have h6 : decide (s.part.link.replies.length < Config.replyPlaces) = true := decide_eq_true h2
    simp only [Link.canTake, h1, h3, h6, Option.isNone_none, Bool.and_self]
  rw [Link.takeHead, if_pos h5, h4]

/-- A request whose owner answers at once: the room it leaves, and the reply with its summary. -/
theorem Taken.serve_now {s : State} {k : ReqKind} {tag : Byte} {payload : List Byte} {rest : List ReqFrame}
    (h : Taken s k tag payload rest) (owner : ReqFrame → Part → Option (Part × Answer)) (room : Room)
    (status : Status) (results : Results)
    (ho : owner { kind := k.code, tag := tag, payload := payload, verdict := .good }
        { s.part with link := { s.part.link with buffer := rest } } =
      some ({ s.part with link := { s.part.link with buffer := rest }, room := room }, .now status results)) :
    s.serve k owner = s.answered k tag rest room status results := by
  obtain ⟨h1, h2⟩ := h
  unfold State.serve Part.serve
  rw [h1.takeHead]
  simp only [h2, and_self, ite_true, ho]
  rfl

/-- A request whose owner works on the room alone. -/
theorem Taken.serve_inRoom {s : State} {k : ReqKind} {tag : Byte} {payload : List Byte} {rest : List ReqFrame}
    (h : Taken s k tag payload rest) {α : Type} (parse : List Byte → Option α)
    (act : α → Room → Room × Status × Results) (a : α) (hp : parse payload = some a) :
    s.serve k (inRoom parse act) =
      s.answered k tag rest (act a s.part.room).1 (act a s.part.room).2.1 (act a s.part.room).2.2 := by
  apply h.serve_now
  simp [inRoom, hp]

/-- A request whose owner reports. -/
theorem Taken.serve_asking {s : State} {k : ReqKind} {tag : Byte} {payload : List Byte} {rest : List ReqFrame}
    (h : Taken s k tag payload rest) {α : Type} (parse : List Byte → Option α) (report : α → Part → Status × Results)
    (a : α) (hp : parse payload = some a) :
    s.serve k (asking parse report) =
      s.answered k tag rest s.part.room
        (report a { s.part with link := { s.part.link with buffer := rest } }).1
        (report a { s.part with link := { s.part.link with buffer := rest } }).2 := by
  apply h.serve_now
  simp [asking, hp]

/-- A request refused by the lifephase. -/
theorem Asked.serve_refused {s : State} {k : ReqKind} {tag : Byte} {payload : List Byte} {rest : List ReqFrame}
    (h : Asked s k tag payload rest) (owner : ReqFrame → Part → Option (Part × Answer)) (status : Status)
    (hr : k.refusal s.part.link.phase = some status) :
    s.serve k owner = s.declined k tag rest status .none := by
  unfold State.serve Part.serve
  rw [h.takeHead]
  simp only [hr, and_self, ite_true]
  rfl

/-- A request whose payload has no shape of its kind. -/
theorem Taken.serve_misshapen {s : State} {k : ReqKind} {tag : Byte} {payload : List Byte} {rest : List ReqFrame}
    (h : Taken s k tag payload rest) (owner : ReqFrame → Part → Option (Part × Answer))
    (ho : owner { kind := k.code, tag := tag, payload := payload, verdict := .good }
        { s.part with link := { s.part.link with buffer := rest } } = none) :
    s.serve k owner = s.declined k tag rest .badArg .none := by
  obtain ⟨h1, h2⟩ := h
  unfold State.serve Part.serve
  rw [h1.takeHead]
  simp only [h2, and_self, ite_true, ho]
  rfl

/-- Nothing is taken while the reply queue is full, a request is in hand, or the link does not answer. -/
theorem State.serve_waits (s : State) (k : ReqKind) (owner : ReqFrame → Part → Option (Part × Answer))
    (h : s.part.link.canTake = false) : s.serve k owner = s := by
  unfold State.serve Part.serve Link.takeHead
  simp [h]

/-! ## Fields of an answered request's state -/

section
variable (s : State) (k : ReqKind) (tag : Byte) (rest : List ReqFrame) (room : Room) (status : Status)
  (results : Results)

@[simp] theorem State.answered_room : (s.answered k tag rest room status results).part.room = room := rfl
@[simp] theorem State.answered_dram : (s.answered k tag rest room status results).part.dram = s.part.dram := rfl
@[simp] theorem State.answered_pending : (s.answered k tag rest room status results).pending = s.pending := rfl
@[simp] theorem State.answered_phase :
    (s.answered k tag rest room status results).part.link.phase = s.part.link.phase := rfl
@[simp] theorem State.answered_buffer : (s.answered k tag rest room status results).part.link.buffer = rest := rfl
@[simp] theorem State.answered_inHand :
    (s.answered k tag rest room status results).part.link.inHand = s.part.link.inHand := rfl
@[simp] theorem State.answered_refused :
    (s.answered k tag rest room status results).part.link.refused = s.part.link.refused := rfl

end

end Sys2Proof.Machine
end

