-- ==== Sys2Proof/Laws/Wire.lean ====
section
/-! SUPPORT. Fields of several bytes: what a written field reads back as, and the numbers of a payload written field by
field (R172, R176). -/

namespace Sys2Proof.Wire

@[simp] theorem field_length (w n : Nat) : (field w n).length = w := by
  induction w generalizing n with
  | zero => rfl
  | succ w ih => simp [field, ih]

theorem number_snoc (bs : List Byte) (b : Byte) : number (bs ++ [b]) = number bs * 256 + b.toNat := by
  simp [number]

/-- A field reads back as its number, modulo what the field can hold. -/
theorem number_field_mod (w n : Nat) : number (field w n) = n % 256 ^ w := by
  induction w generalizing n with
  | zero => simp [field, number, Nat.mod_one]
  | succ w ih =>
    have h : 256 ^ (w + 1) = 256 * 256 ^ w := by rw [Nat.pow_succ, Nat.mul_comm]
    rw [field, number_snoc, ih, h, Nat.mod_mul, BitVec.toNat_ofNat]
    omega

/-- A field reads back as its number, where the field can hold it. -/
theorem number_field {w n : Nat} (h : n < 256 ^ w) : number (field w n) = n := by
  rw [number_field_mod, Nat.mod_eq_of_lt h]

end Sys2Proof.Wire

namespace Sys2Proof.Machine

/-- The first field of a payload, and the fields after it. -/
theorem fields_cons (w n : Nat) (ws : List Nat) (rest : List Byte) (h : n < 256 ^ w) :
    fields (w :: ws) (Wire.field w n ++ rest) = (fields ws rest).map fun ns => n :: ns := by
  simp [fields, Wire.number_field h]

/-- The last field of a payload. -/
theorem fields_last (w n : Nat) (h : n < 256 ^ w) : fields [w] (Wire.field w n) = some [n] := by
  have := fields_cons w n [] [] h
  simpa [fields] using this

/-- A payload of another length than its fields has no numbers. -/
theorem fields_none {ws : List Nat} {bytes : List Byte} : fields ws bytes = none ↔ bytes.length ≠ ws.sum := by
  induction ws generalizing bytes with
  | nil => cases bytes <;> simp [fields]
  | cons w ws ih =>
    simp only [fields, List.sum_cons]
    split
    · simp; omega
    · rw [Option.map_eq_none_iff, ih, List.length_drop]; omega

end Sys2Proof.Machine
end

