-- ==== Sys2Proof/Tests/Slice0.lean ====
section
/-! SUPPORT. The model's own tests: values worked in the spec, ill-formed terms refused, single steps on small states,
and for each statement a witness that meets its hypotheses. -/

namespace Sys2Proof.Tests

set_option Elab.async false

open Sys2Proof.Machine

/-! ## Small states -/

/-- The part in UNCONFIGURED, nothing configured. -/
def unconfigured : State := State.reset.modLink fun k => { k with phase := .unconfigured }

/-- The part in RUNNING, nothing configured. -/
def running : State := State.reset.modLink fun k => { k with phase := .running }

/-- A good request of a kind at the head of the buffer, tag 07h. -/
def asked (k : ReqKind) (payload : List Byte) (s : State) : State :=
  s.modLink fun link => { link with buffer := [{ kind := k.code, tag := 7, payload := payload, verdict := .good }] }

/-- A line as given. -/
def withLine (l : LineId) (y : Line) (s : State) : State := s.modRoom fun r => r.setLine l y

/-- A job as given. -/
def withJob (j : JobId) (x : Job) (s : State) : State := s.modRoom fun r => r.setJob j (some x)

/-- An account as given. -/
def withAccount (a : AcctId) (x : Account) (s : State) : State := s.modRoom fun r => r.setAccount a (some x)

/-- The state after a command that answers next, and the state itself otherwise. -/
def after (c : Instr) (s : State) : State :=
  match exec c s with
  | .next t => t
  | .fault _ | .refused _ => s

/-- A simplex MONO page of one block, 3 bytes long. -/
def page : PageEntry :=
  { index := 1, desc := { media := 0, colour := .mono, front := 5, back := none }, length := 3, chain := [0],
    copies := 0 }

/-- A job of one copy of that page, intake CLOSED, billed to A0, for bay B0. -/
def job : Job :=
  { tag := 9, account := 0, target := .bay 0, cls := .standard, copies := 1,
    needs := { colour := .plain, duplex := false, media := 1 }, earlyStart := false, splitAllowed := true,
    intakeOpen := false, openPage := none, pages := [page], pageCount := 1, pos := .at 1 1, confirmed := 0,
    bound := none, runCount := 0, holdReason := none, holdPending := false, stallReason := none, state := .queued,
    blocked := false, cutPending := false }

/-- The same job, bound to PL0. -/
def boundJob : Job := { job with state := .active, bound := some 0, runCount := 1 }

/-- A HARD account with limit 10,000 and watermark 25 % (the account of section 7.13). -/
def account : Account :=
  { mode := .hard, limit := 10000, watermark := 25, factor := 256, consumed := 7000, held := 0, mono := 0, colour := 0,
    sheets := 0, epoch := 0, crossed := false, saturated := false, refs := 1 }

/-- A printer that covers everything, window 4. -/
def printer : Attachment :=
  { model := 1, colour := .full, duplex := true, media := 0xFFFF, printerWindow := 4, window := 4, ready := none }

/-- A live receiver and transmitter at rest on a line of a state, in bay B0. -/
def line (state : LineState) : Line :=
  { Line.powerOn with
    state := state, mode := .on, bay := some 0, rx := Receiver.fresh, att := some printer, silence := some 5000,
    poll := some 1000 }

/-- A window entry of J0's page, charged 400. -/
def entry (closed : Bool) : Entry :=
  { job := 0, copy := 1, page := 1, charge := 400, account := 0, closed := closed, desc := page.desc }

/-- A BUSY line with J0 bound and its JOB-START sent. -/
def busy : Line := { line .busy with job := some 0, started := true }

/-- An open record with a condition of a kind. -/
def record (k : CondKind) (loss : Bool) : Alert :=
  { conds := [{ kind := k, detail := .plain, first := 0, repeats := 0 }], level := .one, acked := false,
    timer := some 60000, failover := .none, loss := loss, opened := 0 }

/-- A line in ALERT with that record. -/
def alerted (k : CondKind) (loss : Bool) : Line := { line .alert with alert := some (record k loss) }

/-- A frame at the head of a line's inbound queue. -/
def got (y : Line) (f : InFrame) : Line := { y with rx := { y.rx with queue := [f] } }

/-- The END of a frame in a line's shift stage. -/
def sending (y : Line) (f : Sent) : Line :=
  { y with tx := { y.tx with shift := some { value := 0, marker := true, role := .ends f } } }

/-- A request put at the head of the buffer of a part that answers stands there to be taken. -/
theorem asked_Asked (k : ReqKind) (p : List Byte) (s : State) (ha : s.part.link.phase.answers = true)
    (hr : s.part.link.replies = []) (hi : s.part.link.inHand = none) : Asked (asked k p s) k 7 p [] :=
  ⟨ha, by simp [asked, hr], hi, rfl⟩

/-- The same in a lifephase that takes the kind. -/
theorem asked_Taken (k : ReqKind) (p : List Byte) (s : State) (ha : s.part.link.phase.answers = true)
    (hr : s.part.link.replies = []) (hi : s.part.link.inHand = none) (hk : k.refusal s.part.link.phase = none) :
    Taken (asked k p s) k 7 p [] := ⟨asked_Asked k p s ha hr hi, hk⟩

/-- Any request but START can be taken in RUNNING, whatever the room. -/
theorem taken_running (k : ReqKind) (p : List Byte) (f : Room → Room) (hk : k ≠ .start) :
    Taken (asked k p (running.modRoom f)) k 7 p [] :=
  asked_Taken k p _ rfl rfl rfl (by cases k <;> first | rfl | exact absurd rfl hk)

/-! ## Ill-formed commands -/

theorem test_noSync_refused : WellFormed.hasSync [0x01, 0x02] = false := by decide
theorem test_cutFrame_refused : WellFormed.arrives [0xC3, 0x01, 0x05, 0x00] = false := by decide
theorem test_wf_refuses_noSync : (Instr.requestArrival [0x01]).wf = false := by decide
theorem test_wf_refuses_cutFrame : (Instr.requestArrival [0xC3, 0x01]).wf = false := by decide
theorem test_wf_accepts_frame : (Instr.requestArrival (Wire.frame 0x01 0x05 [])).wf = true := by decide +kernel
theorem test_noWord_decodes (n w : Nat) : decodeTableWord n w = none := rfl

/-! ## Values worked in the spec -/

/-- R172: over 31h to 39h the CRC is 29B1h. -/
theorem test_crc16 : Wire.crc16 [0x31, 0x32, 0x33, 0x34, 0x35, 0x36, 0x37, 0x38, 0x39] = 0x29B1#16 := by decide +kernel

/-- R74: a POLL frame is 17h and 65h; STATUS with ready is 41h, 01h, 49h. -/
theorem test_crc8_poll : Wire.crc8 0x17 [] = 0x65#8 := by decide +kernel
theorem test_crc8_status : Wire.crc8 0x41 [0x01] = 0x49#8 := by decide +kernel

/-- Section 6.7: a duplex page in FULL costs 34,220 mu at factor 230. -/
theorem test_charge_duplex :
    charge { base := 12000, ksur := 28750 } 230 { media := 3, colour := .full, front := 37, back := some 12 } =
      34220 := by decide

/-- Section 6.8: factor 0 charges nothing, factor 256 the raw cost. -/
theorem test_charge_zero :
    charge { base := 900, ksur := 1200 } 0 { media := 0, colour := .mono, front := 5, back := none } = 0 ∧
      charge { base := 900, ksur := 1200 } 256 { media := 0, colour := .mono, front := 5, back := none } = 960 := by
  decide

/-- Section 6.9: one half rounds up. -/
theorem test_surcharge_rounding : surcharge 50 1 = 1 ∧ surcharge 49 1 = 0 ∧ surcharge 33 3 = 1 := by decide

/-- Section 7.13: the second reservation of 400 crosses the level of 2,500. -/
theorem test_watermark :
    let s := withAccount 90 account running
    let r := (s.part.room.reserve 90 400).reserve 90 400
    (r.account 90).map Account.available = some 2200 ∧ (r.account 90).map Account.crossed = some true := by
  decide +kernel

/-- Section 8.6: a wrapped counter with offset −1 agrees; two over-reported sheets give 3. -/
theorem test_difference :
    ({ Counting.powerOn with baseline := 4294967294, last := 1, offset := 0xFFFFFFFF, tally := 2 } :
      Counting).difference = 0 ∧
    ({ Counting.powerOn with baseline := 4294967294, last := 4, offset := 0xFFFFFFFF, tally := 2 } :
      Counting).difference = 3 := by decide

/-- Section 4.11: the BEGIN of a STATUS frame on the wire under EVEN. -/
theorem test_wireBits :
    wireBits { parity := .even, twoStops := false, p := 0, k := 8 } 0x41 true =
      [false, true, false, false, false, false, false, true, false, true, true, true] := by decide

/-- Section 4.11: the reset rate is one million bits a second. -/
theorem test_baud : Format.powerOn.baud = 1000000 := by decide

/-- Section 2.8: the take that leaves 511 of 8,192 blocks free sets the low warning, the one that leaves 512 does not. -/
theorem test_levels : Store.powerOn.lowLevel = 512 ∧ Store.powerOn.rearmLevel = 1024 := by decide

/-! ## Witnesses: states and operands that meet the hypotheses of each statement -/

/-- An empty queue in each lifephase; a silence timer and a scan that go on; and a RUNNING part in which nothing runs
out. -/
theorem witness_AnEmptyQueueIsOneMillisecond :
    let idle := withLine 0 (line .idle) running
    let silent := withLine 0 { line .idle with silence := some 1 } running
    State.reset.pending = [] ∧ State.reset.part.link.phase = .powerClear ∧ unconfigured.pending = [] ∧
      unconfigured.part.link.phase = .unconfigured ∧ (after (.resetRelease 2) State.reset).pending = [] ∧
      (after (.resetRelease 2) State.reset).part.link.phase = .strap ∧
      silent.pending = [] ∧ silent.part.link.phase = .running ∧ (silent.part.room.line 0).silence = some 1 ∧
      (running.modRoom fun r => { r with meter := { r.meter with scan := some 495 } }).part.room.meter.scan = some 495 ∧
      idle.pending = [] ∧ idle.part.link.phase = .running ∧ idle.part.room.meter.scan = none ∧
      idle.part.room.meter.timer = none ∧
      (∀ b, idle.part.pins.ack.get b = (idle.part.room.floor.ack.get b).level) ∧
      idle.part.pins.shift = idle.part.room.floor.shift.level ∧
      ∀ l, ((idle.part.room.line l).silence = some 5000 ∨ (idle.part.room.line l).silence = none) ∧
        ((idle.part.room.line l).poll = some 1000 ∨ (idle.part.room.line l).poll = none) ∧
        (idle.part.room.line l).stall = none ∧ (idle.part.room.line l).echo = none ∧
        (idle.part.room.line l).alert = none := by decide +kernel

/-- The end of POWER_CLEAR, and the state STRAP that follows it. -/
theorem witness_PowerOnAndStraps :
    State.reset.part.link.phase = .powerClear ∧
      (after (.resetRelease 2) State.reset).part.link.phase = .strap ∧
      (after (.resetRelease 2) State.reset).part.room.attn ≠ [] := by decide +kernel

theorem witness_StartTakesUpRunning :
    Taken (asked .start [] unconfigured) .start 7 [] [] ∧ (asked .start [] unconfigured).part.link.sound := by
  unfold Taken Asked Link.sound; decide +kernel

/-- RESTART with no close in flight, and with one; a running generator and a stopped one. -/
theorem witness_RestartClearsSpoolingAndAlerts :
    let s := asked .restart [] (withAccount 0 account (withLine 0 busy running))
    let c := asked .restart [] (running.modRoom fun r => { r with meter := { r.meter with scan := some 511 } })
    Taken s .restart 7 [] [] ∧ s.part.room.meter.scan = none ∧ Taken c .restart 7 [] [] ∧
      c.part.room.meter.scan ≠ none ∧ (s.part.room.floor.beacons.get 0).gen = none ∧
      (Beacon.mk .slow (some (Floor.powerOn.loaded .slow))).gen ≠ none := by
  unfold Taken Asked; decide +kernel

/-- An empty buffer and a full one; payloads of 0 and of 2,048 bytes. -/
theorem witness_RequestFramesArriveAndAreAnswered :
    running.part.link.phase.answers = true ∧ (∀ b ∈ [0x00#8, 0xC2#8], b ≠ 0xC3#8) ∧
      ([] : List Byte).length ≤ 2048 ∧ (List.replicate 2048 (0xC3#8)).length ≤ 2048 ∧
      running.part.link.buffer.length < 4 ∧
      ¬(running.modLink fun k => { k with
        buffer := List.replicate 4 { kind := 1, tag := 0, payload := [], verdict := .good } }).part.link.buffer.length
          < 4 := by decide +kernel

/-- A wrong check, a length of 2,049 and of 65,535, a reply to shift out, and each bad verdict at the head. -/
theorem witness_RequestFramesArriveAndAreAnswered_refused :
    (0 : Nat) ≠ (Wire.crc16 (0x01#8 :: 0x05#8 :: (Wire.field 2 ([] : List Byte).length ++ []))).toNat ∧
      2048 < 2049 ∧ 65535 < 65536 ∧ State.reset.part.link.phase.answers = false ∧
      (after .identify (asked .identify [] running)).part.link.replies ≠ [] ∧ State.reset.part.link.replies = [] ∧
      ∀ v ∈ [Verdict.tooLong, .badCheck, .unknownKind],
        let s := running.modLink fun k => { k with buffer := [{ kind := 0, tag := 1, payload := [], verdict := v }] }
        s.part.link.phase.answers = true ∧ s.part.link.replies.length < 4 ∧ s.part.link.inHand = none ∧
          s.part.link.buffer = [{ kind := 0, tag := 1, payload := [], verdict := v }] := by decide +kernel

/-- A refused lifephase of each kind, a misshapen payload, and the four ways to wait. -/
theorem witness_RequestsAreSettledBeforeTheirOwner :
    Asked (asked .jobReap [] unconfigured) .jobReap 7 [] [] ∧
      (asked .jobReap [] unconfigured).part.link.phase = .unconfigured ∧
      Asked (asked .start [] running) .start 7 [] [] ∧ (asked .start [] running).part.link.phase = .running ∧
      Taken (asked .jobReap [0] running) .jobReap 7 [0] [] ∧ ReqKind.jobReap.fits [0] = false ∧
      running.part.link.buffer = [] ∧ State.reset.part.link.phase.answers = false ∧
      (running.modLink fun k => { k with inHand := some { tag := 0, line := 0, pattern := [1] } }).part.link.inHand
        ≠ none := by
  unfold Taken Asked; decide +kernel

theorem witness_DeviceRequestsAndNotices :
    Taken (asked .identify [] unconfigured) .identify 7 [] [] ∧ Taken (asked .queuePeek [] running) .queuePeek 7 [] [] ∧
      Taken (asked .linkStatus [] running) .linkStatus 7 [] [] ∧
      (Wire.arrival (Wire.frame 1 0 [])).isSome = true ∧
      4 ≤ (running.modLink fun k => { k with
        buffer := List.replicate 4 { kind := 1, tag := 0, payload := [], verdict := .good } }).part.link.buffer.length := by
  unfold Taken Asked; decide +kernel

/-- An empty list, and a key of each kind at the head. -/
theorem witness_DeviceRequestsAndNotices_notice :
    let s := fun keys : List Key => asked .nextNotice [] (running.modRoom fun r => { r with attn := keys })
    Taken (s []) .nextNotice 7 [] [] ∧ (s []).part.room.attn = [] ∧
      ∀ src ∈ [Source.device, .line 23, .job 255, .account 511],
        (s [{ src := src, marks := [.storeLow] }]).part.room.attn = [{ src := src, marks := [.storeLow] }] := by
  unfold Taken Asked; decide +kernel

/-- Every group of SET-LINE, each field at its top. -/
def fullSetLine (number : Nat) : SetLineArgs :=
  { line := number, enable := true, loopback := false, character := some (3, 2), rate := some (255, 255),
    protocol := some (255, 65535, 65535), counting := some (1, 4294967295, 65535) }

theorem witness_PayloadsGiveTheirOperandsBack :
    (∀ w ∈ [(1, 255), (2, 65535), (4, 4294967295)], w.2 < 256 ^ w.1) ∧ (fullSetLine 255).fitsFields ∧
      ({ tag := 4294967295, account := 65535, targetKind := 255, target := 255, cls := 255, copies := 65535,
         colour := 255, duplex := true, earlyStart := true, splitAllowed := true, media := 65535 } :
        JobOpenArgs).fitsFields ∧
      ({ slot := 65535, media := 255, sides := 255, colour := 255, front := 255, back := some 255 } :
        PageBeginArgs).fitsFields ∧
      ({ account := 65535, mode := 255, limit := 4294967295, watermark := 255, factor := 65535 } :
        AccountSetArgs).fitsFields := by
  refine ⟨by decide, ?_, ?_, ?_, ?_⟩ <;>
    simp [SetLineArgs.fitsFields, JobOpenArgs.fitsFields, PageBeginArgs.fitsFields, AccountSetArgs.fitsFields,
      fullSetLine]

/-- Lines 24 and 23; a state check that fails (a BUSY line and a group), an argument check that fails (parity code 4), and
a request that passes. -/
theorem witness_SetLineWritesItsGroups :
    (fullSetLine 24).fitsFields ∧ Taken (asked .setLine (fullSetLine 24).payload running) .setLine 7
        (fullSetLine 24).payload [] ∧ 24 ≤ (fullSetLine 24).line ∧
      Taken (asked .setLine (fullSetLine 23).payload running) .setLine 7 (fullSetLine 23).payload [] ∧
      (withLine 23 busy running).part.room.line 23 = busy ∧
      (running.part.room.line 23).state = .disabled ∧ 3 < 4 ∧ (fullSetLine 23).rate.isSome = true ∧
      ({ Receiver.fresh with cond := .sampling 20 [true] } : Receiver).cond = .sampling 20 [true] := by
  refine ⟨by simp [SetLineArgs.fitsFields, fullSetLine], ?_⟩
  unfold Taken Asked; decide +kernel

/-- A SET-LINE that only clears the enable flag. -/
def disablePL0 : SetLineArgs :=
  { line := 0, enable := false, loopback := false, character := none, rate := none, protocol := none,
    counting := none }

/-- A BUSY line with its job, and a line in ALERT with an ABORTED one. -/
theorem witness_LineDisableTearsDown :
    let s := asked .setLine disablePL0.payload (withJob 0 boundJob (withLine 0 busy running))
    let a := asked .setLine disablePL0.payload (withJob 0 { boundJob with state := .aborted }
      (withLine 0 { alerted .jam true with job := some 0 } running))
    (Taken s .setLine 7 disablePL0.payload [] ∧ s.part.link.phase = .running ∧ (s.part.room.line 0).state ≠ .disabled ∧
        (s.part.room.line 0).state.attached = true ∧ (s.part.room.line 0).job = some 0 ∧
        s.part.room.job 0 = some boundJob ∧ boundJob.state ≠ .aborted) ∧
      Taken a .setLine 7 disablePL0.payload [] ∧ (a.part.room.line 0).alert = some (record .jam true) ∧
      a.part.room.job 0 = some { boundJob with state := .aborted } := by
  unfold Taken Asked; decide +kernel

theorem witness_disablePL0_fits : disablePL0.fitsFields := by simp [SetLineArgs.fitsFields, disablePL0]

theorem witness_LineQueriesAndTests :
    Taken (asked .lineQuery (Wire.field 1 24 ++ Wire.field 1 0) running) .lineQuery 7
        (Wire.field 1 24 ++ Wire.field 1 0) [] ∧
      Taken (asked .lineQuery (Wire.field 1 23 ++ Wire.field 1 255) running) .lineQuery 7
        (Wire.field 1 23 ++ Wire.field 1 255) [] := by
  unfold Taken Asked; decide +kernel

/-- A LOOPBACK line at rest, patterns of 0, 1, 256 and 257 bytes; a TEST frame sent, echoed, or not echoed. -/
theorem witness_LineQueriesAndTests_test :
    let loop := { line .loopback with silence := none, poll := none, att := none }
    let hand := fun s : State => s.modLink fun k => { k with inHand := some { tag := 1, line := 0, pattern := [5] } }
    (∀ n ∈ [0, 1, 256, 257], Taken (asked .lineTest (Wire.field 1 0 ++ List.replicate n 5) (withLine 0 loop running))
        .lineTest 7 (Wire.field 1 0 ++ List.replicate n 5) []) ∧
      loop.tx.hold = none ∧ loop.tx.sending = [] ∧ loop.tx.due = [] ∧ loop.tx.pollDue = false ∧
      ((hand (withLine 0 (sending loop .test) running)).part.room.line 0).tx.shift =
        some { value := 0, marker := true, role := .ends .test } ∧
      (hand (withLine 0 (sending loop .test) running)).part.link.inHand =
        some { tag := 1, line := 0, pattern := [5] } ∧
      ((hand (withLine 0 (got loop (.test [5])) running)).part.room.line 0).rx.queue = [.test [5]] ∧
      ((hand (withLine 0 { loop with echo := some 1 } running)).part.room.line 0).echo ≠ none := by
  unfold Taken Asked; decide +kernel

/-- A LOOPBACK line with two characters of a frame to send, free to start one, held back by a full queue, and by two
characters under way; one that receives each kind of character in each condition of its assembler. -/
theorem witness_LoopbackRunsOnItsInternalPath :
    let c : TxChar := { value := 1, marker := false, role := .plain }
    let loop := { line .loopback with tx := { Transmitter.powerOn with hold := some c, sending := [c] } }
    let on := fun (a : Assembler) (d : PathChar) => { loop with rx := { loop.rx with asm := a, path := [d] } }
    loop.state = .loopback ∧ loop.tx.hold = some c ∧ loop.tx.sending = [c] ∧ loop.tx.shift = none ∧
      loop.rx.queue.length < 4 ∧ loop.rx.path.length ≤ 1 ∧
      4 ≤ (List.replicate 4 (InFrame.test [1])).length ∧ 2 ≤ (List.replicate 2 (PathChar.mk 0 false)).length ∧
      loop.rx.cond.receives = true ∧ (on .hunting ⟨0x18, true⟩).rx.path = [⟨0x18, true⟩] ∧
      (on (.inFrame 0x18 [7] false) ⟨Wire.crc8 0x18 [7], true⟩).rx.asm = .inFrame 0x18 [7] false ∧
      (on .skipping ⟨0, true⟩).rx.asm = .skipping ∧ 0x19#8 ≠ 0x18#8 ∧
      { loop with tx := { loop.tx with shift := some c } }.tx.shift = some c ∧ (line .idle).state ≠ .loopback ∧
      (line .disabled).state = .disabled := by decide +kernel

/-- Bays 8 and 7; a BUSY line that would move; the member set repeated with a timeout of 3,600 and of 3,601; an IDLE line that
moves from B0 to B7. -/
theorem witness_SetBayWritesTheMembers :
    let pay := fun bay members timeout : Nat => Wire.field 1 bay ++ Wire.field 3 members ++ Wire.field 2 timeout
    Taken (asked .setBay (pay 8 0 0) running) .setBay 7 (pay 8 0 0) [] ∧
      (Taken (asked .setBay (pay 0 0 0) (withLine 0 busy running)) .setBay 7 (pay 0 0 0) [] ∧
        Nat.testBit 0 0 ≠ decide (busy.bay = some 0) ∧ busy.state ≠ .disabled ∧ busy.state ≠ .detached ∧
        busy.state ≠ .idle) ∧
      Taken (asked .setBay (pay 7 1 3600) running) .setBay 7 (pay 7 1 3600) [] ∧
      Taken (asked .setBay (pay 7 1 3601) running) .setBay 7 (pay 7 1 3601) [] ∧
      (∀ l : LineId, (running.part.room.line l).state = .disabled) ∧
      (let s := asked .setBay (pay 7 1 0) (withLine 0 (line .idle) running)
       Taken s .setBay 7 (pay 7 1 0) [] ∧ Nat.testBit 1 0 ≠ decide ((s.part.room.line 0).bay = some 7) ∧
         (s.part.room.line 0).state = .idle ∧ ∀ l : LineId, l ≠ 0 → (s.part.room.line l).state = .disabled) := by
  unfold Taken Asked; decide +kernel

/-- Items 5, 6, 0Fh to 13h and FFh; a generator stopped and one started. -/
theorem witness_SetPatternWritesOneItem :
    (∀ item ∈ [0, 5, 6, 0x0F, 0x10, 0x12, 0x13, 0xFF],
      Taken (asked .setPattern (Wire.field 1 item ++ Wire.field 2 5 ++ Wire.field 2 6) running) .setPattern 7
        (Wire.field 1 item ++ Wire.field 2 5 ++ Wire.field 2 6) []) ∧
      (running.part.room.floor.beacons.get 0).gen = none ∧
      ((running.part.room.floor.startUp.beacons.get 7).gen.map Generator.running) = some .off := by
  unfold Taken Asked; decide +kernel

/-- Each request that names a slot, for slots 255 (FREE) and 256. -/
theorem witness_SlotsAreCheckedReapedAndQueried :
    (∀ k ∈ [ReqKind.pageEnd, .jobClose, .jobHold, .jobRelease, .jobCancel, .jobReap, .pageData], ∀ slot ∈ [255, 256],
      Taken (asked k (Wire.field 2 slot) running) k 7 (Wire.field 2 slot) []) ∧
      Taken (asked .pageBegin (Wire.field 2 256 ++ [0, 0, 0, 0]) running) .pageBegin 7
        (Wire.field 2 256 ++ [0, 0, 0, 0]) [] ∧
      running.part.room.job 255 = none := by
  unfold Taken Asked; decide +kernel

/-- A JOB-OPEN for an account and a bay. -/
def openArgs (account copies : Nat) (early : Bool) : JobOpenArgs :=
  { tag := 9, account := account, targetKind := 0, target := 7, cls := 2, copies := copies, colour := 2, duplex := true,
    earlyStart := early, splitAllowed := false, media := 65535 }

/-- Accounts 512 and 511, copies of 1,000 and 999, an ABSENT account, no FREE slot, and a free one. -/
theorem witness_JobOpenFillsTheLowestFreeSlot :
    (openArgs 512 1000 false).fitsFields ∧ (openArgs 511 999 true).fitsFields ∧
      Taken (asked .jobOpen (openArgs 512 1000 false).payload running) .jobOpen 7 (openArgs 512 1000 false).payload [] ∧
      (let s := asked .jobOpen (openArgs 511 999 true).payload (withAccount 511 account running)
       Taken s .jobOpen 7 (openArgs 511 999 true).payload [] ∧ s.part.room.account 511 = some account ∧
         s.part.room.job 0 = none) ∧
      running.part.room.account 511 = none ∧
      (∀ j : JobId, (running.modRoom fun r => { r with jobs := Vector.replicate 256 (some job) }).part.room.job j
        ≠ none) := by
  refine ⟨by simp [JobOpenArgs.fitsFields, openArgs], by simp [JobOpenArgs.fitsFields, openArgs], ?_⟩
  unfold Taken Asked; decide +kernel

/-- A job in LOADING with intake OPEN and no page. -/
def loading : Job := { job with state := .loading, intakeOpen := true, pages := [], pageCount := 0 }

/-- The open page of a job in LOADING. -/
def openPage : PageEntry := { page with length := 8192 }

/-- A refusal by state, by the 4,096 pages, by the descriptor and by the pool, and a request that passes with a coverage
of 101 and of 100. -/
theorem witness_PageBeginOpensAPage :
    let a := fun front : Nat => ({ slot := 0, media := 0, sides := 1, colour := 0, front := front, back := none } :
      PageBeginArgs)
    (∀ front ∈ [100, 101], ∀ x ∈ [job, loading, { loading with pageCount := 4096 }],
        Taken (asked .pageBegin (a front).payload (withJob 0 x running)) .pageBegin 7 (a front).payload []) ∧
      (withJob 0 loading running).part.room.job 0 = some loading ∧
      (withJob 0 loading running).part.room.freeEntries ≠ 0 ∧
      (running.modRoom fun r => { r with freeEntries := 0 }).part.room.freeEntries = 0 ∧
      loading.needs.media.getLsbD 0 = true ∧ loading.needs.media.getLsbD 1 = false := by
  unfold Taken Asked; decide +kernel

/-- A run into the present chain, a run that needs a block, and a full store; runs of 1 and of 2,040 bytes. -/
theorem witness_PageDataAppendsItsBytes :
    let x := { loading with openPage := some openPage }
    let s := fun n : Nat => asked .pageData (Wire.field 2 0 ++ List.replicate n 1)
      ((withJob 0 x running).modRoom fun r => { r with store := { r.store with used := [0] } })
    (∀ n ∈ [0, 1, 2040, 2041], Taken (s n) .pageData 7 (Wire.field 2 0 ++ List.replicate n 1) []) ∧
      (s 1).part.room.job 0 = some x ∧ Dram.wf (s 1).part.dram = true ∧
      (s 1).part.room.store.used.Pairwise (· < ·) ∧ openPage.chain.Nodup ∧
      (∀ b ∈ openPage.chain, b ∈ (s 1).part.room.store.used) ∧
      openPage.length ≤ 8192 * openPage.chain.length ∧ 8192 * openPage.chain.length - openPage.length < 1 ∧
      (s 1).part.room.store.used.length < 8192 ∧ page.length + 2040 ≤ 8192 * page.chain.length := by
  unfold Taken Asked; decide +kernel

/-- A rising list of used blocks below N, and a chain to release. -/
theorem witness_BlocksAreTakenLowestFirst :
    let t : Store := { strap := 0, used := [0, 1, 3], low := true }
    t.used.Pairwise (· < ·) ∧ (∀ b ∈ t.used, b < t.blocks) ∧ ([3] : List Nat) ≠ [] := by
  decide +kernel

/-- No open page, an open page in LOADING, in QUEUED at a waiting position, and STALLED for DATA. -/
theorem witness_PageEndAndJobClose :
    let x := { loading with openPage := some openPage }
    let q := { x with state := .queued }
    let d := { x with state := .stalled, stallReason := some .data, bound := some 0 }
    (∀ y ∈ [loading, x, q, d], Taken (asked .pageEnd (Wire.field 2 0) (withJob 0 y running)) .pageEnd 7 (Wire.field 2 0)
        [] ∧ (withJob 0 y running).part.room.job 0 = some y) ∧
      q.waiting = true ∧ d.cutPending = false := by
  unfold Taken Asked; decide +kernel

/-- One job for each case of JOB-CLOSE. -/
theorem witness_PageEndAndJobClose_close :
    let one := { loading with pages := [page], pageCount := 1 }
    let stalled := { one with state := .stalled, stallReason := some .data, bound := some 0, pos := .at 1 2 }
    (∀ y ∈ [job, loading, one, { one with state := .held }, { one with state := .queued },
        { one with state := .queued, pos := .at 1 2 }, stalled, { one with state := .active, bound := some 0 }],
      Taken (asked .jobClose (Wire.field 2 0) (withJob 0 y running)) .jobClose 7 (Wire.field 2 0) [] ∧
        (withJob 0 y running).part.room.job 0 = some y) ∧
      loading.confirmed = loading.copies * loading.pageCount ∧ one.confirmed ≠ one.copies * one.pageCount ∧
      one.waiting = false ∧ { one with pos := .at 1 2 }.waiting = true := by
  unfold Taken Asked; decide +kernel

/-- One job for each case of JOB-HOLD and JOB-RELEASE; the bound one on a line with a sheet in flight. -/
theorem witness_HoldAndRelease :
    let s := withLine 0 { busy with window := [entry true] } running
    (∀ y ∈ [loading, job, boundJob, { boundJob with state := .suspended, holdPending := true },
        { job with state := .held, holdReason := some .host }],
      Taken (asked .jobHold (Wire.field 2 0) (withJob 0 y s)) .jobHold 7 (Wire.field 2 0) [] ∧
        Taken (asked .jobRelease (Wire.field 2 0) (withJob 0 y s)) .jobRelease 7 (Wire.field 2 0) [] ∧
        (withJob 0 y s).part.room.job 0 = some y) ∧
      (s.part.room.line 0).window ≠ [] ∧ boundJob.bound = some 0 ∧ boundJob.holdPending = false := by
  unfold Taken Asked; decide +kernel

/-- A bound job on a BUSY line with an empty window; a pending hold in ACTIVE and in STALLED. -/
theorem witness_HoldAndRelease_bound :
    let s := fun x : Job => withJob 0 x (withLine 0 busy running)
    (Taken (asked .jobHold (Wire.field 2 0) (s boundJob)) .jobHold 7 (Wire.field 2 0) [] ∧
        (s boundJob).part.room.job 0 = some boundJob ∧ boundJob.cutPending = false ∧
        ((s boundJob).part.room.line 0).job = some 0 ∧ ((s boundJob).part.room.line 0).window = [] ∧
        ((s boundJob).part.room.line 0).state = .busy ∧ (∀ b : BayId, (0 : JobId) ∉ (s boundJob).part.room.queue (.bay b)) ∧
        (∀ l : LineId, (0 : JobId) ∉ (s boundJob).part.room.queue (.line l)) ∧ busy.tx.hold = none ∧
        busy.tx.sending = [] ∧ busy.tx.due = [] ∧ busy.tx.pollDue = false) ∧
      ∀ y ∈ [{ boundJob with holdPending := true },
          { boundJob with state := .stalled, stallReason := some .data, holdPending := true },
          { boundJob with state := .stalled, stallReason := some .data, holdPending := true, cutPending := true }],
        Taken (asked .jobRelease (Wire.field 2 0) (s y)) .jobRelease 7 (Wire.field 2 0) [] ∧
          (s y).part.room.job 0 = some y ∧ y.bound = some 0 := by
  unfold Taken Asked; decide +kernel

/-- A bound job on a BUSY line with an empty window, and on a RECOVERING one. -/
theorem witness_JobCancelAborts_bound :
    ∀ y ∈ [busy, { busy with state := .recovering }],
      let s := withJob 0 boundJob (withLine 0 y running)
      Taken (asked .jobCancel (Wire.field 2 0) s) .jobCancel 7 (Wire.field 2 0) [] ∧ s.part.room.job 0 = some boundJob ∧
        (s.part.room.line 0).job = some 0 ∧ (s.part.room.line 0).window = [] ∧
        (∀ b : BayId, (0 : JobId) ∉ s.part.room.queue (.bay b)) ∧
        ∀ l : LineId, (0 : JobId) ∉ s.part.room.queue (.line l) := by
  unfold Taken Asked; decide +kernel

/-- A DONE job, an unbound one, and a bound one with a sheet in flight. -/
theorem witness_JobCancelAborts :
    let s := withLine 0 { busy with window := [entry true] } running
    (∀ y ∈ [{ job with state := .done }, job, boundJob],
      Taken (asked .jobCancel (Wire.field 2 0) (withJob 0 y s)) .jobCancel 7 (Wire.field 2 0) [] ∧
        (withJob 0 y s).part.room.job 0 = some y) ∧
      job.bound = none ∧ boundJob.bound = some 0 ∧ (s.part.room.line 0).job = some 0 ∧
      (s.part.room.line 0).window ≠ [] := by
  unfold Taken Asked; decide +kernel

/-- One job for each case of JOB-REAP; slots 255 and 256 for JOB-QUERY. -/
theorem witness_SlotsAreCheckedReapedAndQueried_reap :
    (∀ y ∈ [job, { job with state := .done }, { job with state := .aborted }, { boundJob with state := .aborted }],
      Taken (asked .jobReap (Wire.field 2 0) (withJob 0 y running)) .jobReap 7 (Wire.field 2 0) [] ∧
        (withJob 0 y running).part.room.job 0 = some y) ∧
      ∀ slot ∈ [255, 256], Taken (asked .jobQuery (Wire.field 2 slot) unconfigured) .jobQuery 7 (Wire.field 2 slot)
        [] := by
  unfold Taken Asked; decide +kernel

/-- A job that has run and one that has not, beside a queued job of their class. -/
theorem witness_QueuesKeepDispatchOrder :
    let s := (withJob 1 job (withJob 0 job running)).modRoom fun r => r.setQueue (.bay 0) [1]
    s.part.room.job 0 = some job ∧ s.part.room.queue job.target = [1] ∧
      ((s.part.room.queue job.target).Pairwise fun a b => s.part.room.classRank a ≤ s.part.room.classRank b) ∧
      (0 : JobId) ∉ s.part.room.queue job.target ∧ job.runCount = 0 ∧ boundJob.runCount ≠ 0 := by
  decide +kernel

/-- Coverages of 0 and 100, rates of 65,535, factors of 0 and 1,023, one side and two. -/
theorem witness_RatesAndChargesAreExact :
    (100 : Nat) ≤ 100 ∧ (65535 : Nat) ≤ 65535 ∧ (1023 : Nat) ≤ 1023 ∧ page.desc.front ≤ 100 ∧ page.desc.sides = 1 ∧
      ({ page.desc with back := some 100 } : Descriptor).sides = 2 := by decide

/-- Media class 16, colour code 3, and the cell (15, FULL) with bases of 65,535 and 65,536. -/
theorem witness_RatesAndChargesAreExact_cell :
    let pay := fun media colour base : Nat =>
      Wire.field 1 media ++ Wire.field 1 colour ++ Wire.field 4 base ++ Wire.field 4 4294967295
    ∀ v ∈ [(16, 0, 0), (15, 3, 0), (15, 2, 65535), (15, 2, 65536)],
      Taken (asked .setRate (pay v.1 v.2.1 v.2.2) running) .setRate 7 (pay v.1 v.2.1 v.2.2) [] := by
  unfold Taken Asked; decide +kernel

/-- An account above its level, exactly at it, and below it, with the flag clear; one with it set; and UNLIMITED. -/
theorem witness_MoneyIsConfirmedAndWatched :
    (withAccount 0 account running).part.room.account 0 = some account ∧ account.available = 3000 ∧
      account.level = 2500 ∧ { account with held := 500 }.available = 2500 ∧
      { account with held := 501 }.available < 2500 ∧ account.crossed = false ∧
      { account with mode := .unlimited }.mode = .unlimited := by decide +kernel

/-- An ACCOUNT-SET in HARD mode. -/
def setArgs (account limit : Nat) : AccountSetArgs :=
  { account := account, mode := 2, limit := limit, watermark := 101, factor := 1024 }

/-- Accounts 512 and 511; an ABSENT account; an ACTIVE one with a limit below and at what it has spent; an unmoved one. -/
theorem witness_AccountSetCreatesOrRewrites :
    (setArgs 512 0).fitsFields ∧ (setArgs 511 7000).fitsFields ∧
      Taken (asked .accountSet (setArgs 512 0).payload running) .accountSet 7 (setArgs 512 0).payload [] ∧
      (let s := asked .accountSet (setArgs 511 7000).payload (withAccount 511 account running)
       Taken s .accountSet 7 (setArgs 511 7000).payload [] ∧ s.part.room.account 511 = some account ∧
         s.part.room.meter.scan = none ∧ account.consumed + account.held = 7000) ∧
      running.part.room.account 511 = none ∧
      (let u := running.modRoom fun r => { r with meter := { r.meter with scan := some 0, epoch := 1 } }
       u.part.room.meter.scan ≠ none ∧ account.epoch ≠ u.part.room.meter.epoch) := by
  refine ⟨by simp [AccountSetArgs.fitsFields, setArgs], by simp [AccountSetArgs.fitsFields, setArgs], ?_⟩
  unfold Taken Asked; decide +kernel

/-- Accounts 512 and 511, views 0, 1 and 2; accounts that may be deleted and that may not; and an unmoved one. -/
theorem witness_AccountsAreReadAndDeleted :
    (∀ v ∈ [(512, 0), (511, 0), (511, 1), (511, 2)],
      Taken (asked .accountRead (Wire.field 2 v.1 ++ Wire.field 1 v.2) (withAccount 511 account running)) .accountRead 7
        (Wire.field 2 v.1 ++ Wire.field 1 v.2) []) ∧
      (∀ a ∈ [511, 512], Taken (asked .accountDelete (Wire.field 2 a) running) .accountDelete 7 (Wire.field 2 a) []) ∧
      (withAccount 511 account running).part.room.account 511 = some account ∧ 0 < account.refs ∧
      { account with refs := 0 }.held = 0 ∧ running.part.room.account 511 = none ∧
      (let u := running.modRoom fun r => { r with meter := { r.meter with scan := some 0, epoch := 1 } }
       u.part.room.meter.scan ≠ none ∧ account.epoch ≠ u.part.room.meter.epoch) := by
  unfold Taken Asked; decide +kernel

/-- Mode 3, edge 4, and intervals of 0, 1, 1,440 and 1,441; each trigger with a close in flight and with none. -/
theorem witness_ClosesAreSetAndStarted :
    let pay := fun mode edge interval : Nat => Wire.field 1 mode ++ Wire.field 1 edge ++ Wire.field 2 interval
    let set := fun m : Meter => running.modRoom fun r => { r with meter := m }
    (∀ v ∈ [(3, 0, 1), (0, 4, 1), (2, 3, 0), (2, 3, 1), (1, 1, 1440), (0, 0, 1441)],
      Taken (asked .setClose (pay v.1 v.2.1 v.2.2) running) .setClose 7 (pay v.1 v.2.1 v.2.2) []) ∧
      Taken (asked .closePeriod [] running) .closePeriod 7 [] [] ∧ running.part.room.meter.scan = none ∧
      (set { Meter.powerOn with scan := some 0, timer := some 1 }).part.room.meter.scan ≠ none ∧
      (set { Meter.powerOn with scan := some 0, timer := some 1 }).part.room.meter.timer ≠ none ∧
      running.part.room.floor.shift.level = !false ∧
      ({ Meter.powerOn with closeMode := .line, edge := .falling } : Meter).closeMode = .line ∧
      Asked (asked .closePeriod [] unconfigured) .closePeriod 7 [] [] ∧
      unconfigured.part.link.phase = .unconfigured ∧ unconfigured.part.room.floor.shift.level = !false := by
  unfold Taken Asked; decide +kernel

/-- The scan at A0 and at A496. -/
theorem witness_TheScanMovesSixteenAccounts :
    ∀ pos ∈ [0, 496], (running.modRoom fun r => { r with meter := { r.meter with scan := some pos } }).part.room.meter.scan
      = some pos := by decide +kernel

/-- No close in flight, an entry of an ACTIVE account; a total at its top. -/
theorem witness_MoneyIsConfirmedAndWatched_confirm :
    (withAccount 0 account running).part.room.account (entry true).account = some account ∧
      running.part.room.meter.scan = none ∧ { account with sheets := 4294967295 }.saturated = false := by
  decide +kernel

/-- A close in flight and an account that it has left unmoved (R126, worked sequence 7.12). -/
theorem witness_MoneyIsConfirmedAndWatched_moved :
    let r := ((withAccount 0 account running).modRoom fun r =>
      { r with meter := { r.meter with scan := some 0, epoch := 1 } }).part.room
    r.account (entry true).account = some account ∧ r.meter.scan ≠ none ∧ account.epoch ≠ r.meter.epoch ∧
      ∀ l, (r.line l).job = none := by decide +kernel

/-- R126: a confirmation during the close: the old period is in the snapshot, the sheet in the new one. -/
theorem test_confirmation_moves_the_account_first :
    let r := ((withAccount 0 account running).modRoom fun r =>
      { r with meter := { r.meter with scan := some 0, epoch := 1 } }).part.room
    (r.meterConfirm (entry true)).snapshot 0 =
        some { epoch := 0, consumed := 7000, mono := 0, colour := 0, sheets := 0, saturated := false } ∧
      ((r.meterConfirm (entry true)).account 0).map (fun x => (x.epoch, x.consumed, x.mono, x.sheets)) =
        some (1#16, 400, 1, 1) := by decide +kernel

/-- Lines 23, 24 and FFh; an open record, acknowledged and not, and none; kinds 4 and 5; an ALERT-ACK in UNCONFIGURED. -/
theorem witness_AlertRequestsAnswer :
    let s := withLine 23 (alerted .jam true) running
    (∀ n ∈ [23, 24, 255], Taken (asked .alertQuery (Wire.field 1 n) s) .alertQuery 7 (Wire.field 1 n) []) ∧
      (∀ n ∈ [22, 23, 24], Taken (asked .alertAck (Wire.field 1 n) s) .alertAck 7 (Wire.field 1 n) []) ∧
      (s.part.room.line 23).alert = some (record .jam true) ∧ (s.part.room.line 22).alert = none ∧
      (record .jam true).acked = false ∧ (record .jam true).acknowledge.acked = true ∧
      Asked (asked .alertAck [23] unconfigured) .alertAck 7 [23] [] ∧ unconfigured.part.link.phase = .unconfigured ∧
      ∀ k ∈ [4, 5], Taken (asked .setEscalation (Wire.field 1 k ++ Wire.field 2 0 ++ Wire.field 2 3601 ++
        Wire.field 2 3600) running) .setEscalation 7 (Wire.field 1 k ++ Wire.field 2 0 ++ Wire.field 2 3601 ++
        Wire.field 2 3600) [] := by
  unfold Taken Asked; decide +kernel

/-- A record whose step ends; a failover that ends with an empty window and with a sheet in flight, with a hold pending
and without. -/
theorem witness_EscalationAndFailover :
    let a := { record .jam true with failover := .running 1 }
    let s := fun (window : List Entry) (hold : Bool) =>
      withJob 0 { boundJob with state := .suspended, holdPending := hold }
        (withLine 0 { alerted .jam true with alert := some a, job := some 0, window := window } running)
    (record .jam true).timer ≠ none ∧ highestKind (record .jam true).conds = some .jam ∧
      (((s [entry true] false).part.room.line 0).alert = some a ∧ ((s [entry true] false).part.room.line 0).window ≠ []) ∧
      ∀ hold ∈ [true, false], ((s [] hold).part.room.line 0).alert = some a ∧
        ((s [] hold).part.room.line 0).window = [] ∧ ((s [] hold).part.room.line 0).job = some 0 ∧
        (s [] hold).part.room.job 0 = some { boundJob with state := .suspended, holdPending := hold } ∧
        { a with failover := .due }.failover = .due := by
  decide +kernel

/-- A button at rest and one held down; a bay with no members and one with a line in ALERT, its generator running OFF, running
SLOW, and stopped; a running generator before its on-time. -/
theorem witness_FloorButtonsAndBeacons :
    let held := running.modRoom fun r => { r with floor := r.floor.setAck 0 { level := false, run := 0 } }
    let g : Generator := { running := .slow, period := 1000, onTime := 500, pos := 0 }
    let lit := running.modRoom fun r => { r with floor := r.floor.setBeacon 0 { sel := .slow, gen := some g } }
    (running.part.room.floor.ack.get 0).level = true ∧ (held.part.room.floor.ack.get 0).level = false ∧
      (∀ l : LineId, (running.part.room.line l).bay ≠ some 0) ∧ unconfigured.part.link.phase = .unconfigured ∧
      (lit.part.room.floor.beacons.get 0).gen = some g ∧ g.pos < g.onTime ∧ g.onTime < g.period ∧
      (let s := withLine 0 (alerted .jam true) lit
       (s.part.room.line 0).bay = some 0 ∧ (s.part.room.line 0).alert = some (record .jam true) ∧
         (s.part.room.floor.ack.get 0).level = true ∧ (s.part.room.floor.beacons.get 1).gen = none) ∧
      (running.part.room.floor.loaded .off).running = .off ∧ g.running ≠ .off := by decide +kernel

/-- A live line whose receiver hunts; a legal HELLO with a printer window of 255; a wrong check, a kind above the inbound ones,
a body of the wrong length, and each field just past its listed codes. -/
theorem witness_PrinterFramesAreTakenOrDiscarded :
    let s := withLine 0 (line .idle) running
    (InFrame.hello 1 0 .full true 0xFFFF 255).legal = true ∧ (InFrame.jam 255).legal = true ∧
      (s.part.room.line 0).state.live = true ∧ (s.part.room.line 0).rx.cond = .hunting ∧
      (s.part.room.line 0).rx.asm = .hunting ∧ (s.part.room.line 0).rx.queue.length < 4 ∧
      0x00#8 ≠ Wire.crc8 0x41 [0x01] ∧ 0x46#8 ∉ [0x40#8, 0x41#8, 0x42#8, 0x43#8, 0x44#8, 0x45#8] ∧
      ([] : List Byte).length ≠ 1 ∧ 15 < (16#8).toNat ∧ 2 < (3#8).toNat ∧ 1 < (2#8).toNat ∧ 7 < (8#8).toNat ∧
      [16#8, 0, 0, 0, 1][0]? = some 16#8 ∧ [0#8, 8][1]? = some 8#8 ∧
      [0#8, 1, 0, 0, 0, 9, 3, 2, 0, 1, 0][6]? = some 3#8 ∧ [0#8, 1, 0, 0, 0, 9, 3, 2, 0, 1, 0][10]? = some 0#8 := by
  decide +kernel

/-- A receiver inside a frame, with a character in reception, at the END of a STATUS frame with room and with a full
queue; a DETACHED line before a break; a receiver that waits for mark; the gap with room and with a full queue. -/
theorem witness_CharactersAreCheckedAndMarked :
    let inside := { line .idle with rx := { Receiver.fresh with
      cond := .sampling 12 [true], asm := .inFrame 0x41#8 [1] false } }
    let full := { inside with rx := { inside.rx with queue := List.replicate 4 .coverOpen } }
    inside.rx.cond.receives = true ∧ Receiver.fresh.cond.receives = true ∧ inside.state.live = true ∧
      ¬(Wire.crc8 0x41#8 [1] = 0#8 ∧ true = false ∧ true = false ∧ (false = false ∨ inside.fmt.parity = .none)) ∧
      (InFrame.status true).legal = true ∧
      inside.rx.asm = .inFrame (InFrame.status true).code (InFrame.status true).body false ∧
      inside.rx.queue.length < 4 ∧ 4 ≤ full.rx.queue.length ∧ full.state.live = true ∧
      (∀ state ∈ [LineState.detached, .idle, .busy, .alert, .recovering], (line state).rx.cond.receives = true ∧
        (line state).state.live = true ∧ (line state).fmt.parity = .none ∧ (line state).errs.brk = false) ∧
      (line .detached).rx.cond.receives = true ∧ (line .detached).state = .detached ∧
      ({ Receiver.fresh with cond := .waitMark } : Receiver).cond = .waitMark ∧ full.rx.cond ≠ .stopped := by
  decide +kernel

/-- HELLO on a DETACHED line with nothing queued for it, and in ALERT with nothing bound. -/
theorem witness_HelloAttachesThePrinter :
    let f : InFrame := .hello 1 0 .full true 0xFFFF 4
    let s := withLine 0 (got (line .detached) f) running
    let a := withLine 0 (got (alerted .jam true) f) running
    ((s.part.room.line 0).rx.queue = [f] ∧ (s.part.room.line 0).state = .detached ∧
        s.part.room.queue (.line 0) = [] ∧ (∀ b, (s.part.room.line 0).bay = some b → s.part.room.queue (.bay b) = []) ∧
        (s.part.room.line 0).tx.hold = none ∧ (s.part.room.line 0).tx.sending = [] ∧
        (s.part.room.line 0).tx.due = [] ∧ (s.part.room.line 0).tx.pollDue = false) ∧
      (a.part.room.line 0).rx.queue = [f] ∧ (a.part.room.line 0).state = .alert ∧
      (a.part.room.line 0).alert = some (record .jam true) ∧ (record .jam true).failover ≠ .due ∧
      (a.part.room.line 0).job = none ∧ { got (alerted .jam true) f with job := some 0 }.job = some 0 ∧
      (∀ due ∈ [false, true], ({ (line .alert).tx with pollDue := due } : Transmitter).pollDue = due) ∧
      (a.part.room.line 0).window = [] ∧ (a.part.room.line 0).page = none ∧ a.part.room.queue (.line 0) = [] ∧
      ∀ b, (a.part.room.line 0).bay = some b → a.part.room.queue (.bay b) = [] := by decide +kernel

/-- STATUS in each kind of state; the frames that are discarded on a line that is not attached. -/
theorem witness_StatusAndPolls :
    (∀ f ∈ [InFrame.jam 31, .coverOpen, .mediaOut 7, .exit 15 0, .cleared .jam],
        (got (line .detached) f).rx.queue = [f] ∧ (got (line .detached) f).state.attached = false) ∧
      (got (line .idle) (.cleared .jam)).rx.queue = [.cleared .jam] ∧ (line .recovering).alert = none ∧
    (got (line .idle) (.status true)).rx.queue = [.status true] ∧ (line .idle).state = .idle ∧
      (line .idle).alert = none ∧ (line .detached).state = .detached ∧ (line .idle).poll ≠ none ∧
      (line .idle).tx.hold = none ∧ (line .idle).tx.sending = [] ∧
      ({ (line .idle).tx with hold := some { value := 1, marker := true, role := .plain } } : Transmitter).hold ≠
        none ∧ (alerted .jam true).state = .alert ∧ (alerted .jam true).alert = some (record .jam true) ∧
      ((record .jam true).conds.filter fun c => c.kind ≠ .noAnswer) ≠ [] ∧
      ((record .noAnswer true).conds.filter fun c => c.kind ≠ .noAnswer) = [] := by decide

/-- A closed sheet in the window and a difference above the tolerance; an account that no close has left unmoved; a record of
NO_ANSWER alone and one that keeps a kind. -/
theorem witness_ExitConfirmsTheOldestSheets :
    let y := { got busy (.exit 15 9) with window := [entry true] }
    let s := withAccount 0 account (withJob 0 boundJob (withLine 0 y running))
    s.part.room.account 0 = some account ∧ s.part.room.meter.scan = none ∧
      (∃ c ∈ (record .mediaOut false).conds, c.kind ≠ .noAnswer) ∧
      (¬∃ c ∈ (record .noAnswer false).conds, c.kind ≠ .noAnswer) ∧
      (s.part.room.line 0).rx.queue = [.exit 15 9] ∧ (s.part.room.line 0).state = .busy ∧
      (s.part.room.line 0).alert = none ∧ s.part.room.job 0 = some boundJob ∧ y.count.source = .exit ∧
      y.count.tolerance < (9 - y.count.baseline + y.count.offset - (y.count.tally + 1)).toInt.natAbs ∧
      y.count.latch = none ∧ busy.state.attached = true ∧ (line .idle).state.attached = true ∧
      (line .recovering).state.attached = true ∧ (alerted .mediaOut false).state.attached = true ∧
      (line .idle).window = [] ∧ (line .idle).job = none ∧ (line .idle).alert = none := by decide +kernel

/-- A BUSY line with a sheet in flight, a RECOVERING one, an ABORTED job, and each of the five losses. -/
theorem witness_LossesSuspendTheJob :
    let s := fun y : Line => withJob 0 boundJob (withLine 0 { y with window := [entry true] } running)
    (∀ f ∈ [InFrame.jam 31, .coverOpen, .hello 1 0 .full true 0xFFFF 4],
        ((s (got busy f)).part.room.line 0).rx.queue = [f]) ∧
      ((s busy).part.room.line 0).rx.cond.receives = true ∧
      ((s busy).part.room.line 0).silence ≠ none ∧ ((s busy).part.room.line 0).state = .busy ∧
      ((s busy).part.room.line 0).alert = none ∧ ((s busy).part.room.line 0).job = some 0 ∧
      (s busy).part.room.job 0 = some boundJob ∧ boundJob.state = .active ∧
      (∀ e ∈ ((s busy).part.room.line 0).window, e.job = 0) ∧
      (∀ k, k ≠ 0 → ((s busy).part.room.line k).job ≠ some 0) ∧ ((s busy).part.room.line 0).tx.pollDue = false ∧
      ((s { busy with state := .recovering }).part.room.line 0).state = .recovering ∧
      { boundJob with state := .aborted }.state = .aborted := by
  decide +kernel

/-- An IDLE line, and a line in ALERT with a SUSPENDED job and a sheet in flight. -/
theorem witness_LossesOnIdleAndAlertedLines :
    let y := { alerted .mediaOut false with job := some 0, window := [entry true] }
    let s := fun y : Line => withJob 0 { boundJob with state := .suspended } (withLine 0 y running)
    (∀ z ∈ [line .idle, y], (∀ f ∈ [InFrame.jam 31, .coverOpen], ((s (got z f)).part.room.line 0).rx.queue = [f]) ∧
        ((s z).part.room.line 0).rx.cond.receives = true ∧ ((s z).part.room.line 0).silence ≠ none) ∧
      ((line .idle).state = .idle ∧ (line .idle).alert = none ∧ (line .idle).job = none ∧ (line .idle).window = [] ∧
        (line .idle).page = none) ∧
      y.state = .alert ∧ y.alert = some (record .mediaOut false) ∧ (record .mediaOut false).failover ≠ .due ∧
      (s y).part.room.job 0 = some { boundJob with state := .suspended } ∧ (∀ e ∈ y.window, e.job = 0) ∧
      ∀ k, k ≠ 0 → ((s y).part.room.line k).job ≠ some 0 := by decide +kernel

/-- A BUSY line with its job, an ABORTED one, a RECOVERING line, and an IDLE one. -/
theorem witness_MediaOutPausesTheLine :
    let s := fun (x : Job) (y : Line) => withJob 0 x (withLine 0 (got y (.mediaOut 7)) running)
    (∀ x ∈ [boundJob, { boundJob with state := .aborted }], ∀ y ∈ [busy, { busy with state := .recovering }],
      ((s x y).part.room.line 0).rx.queue = [.mediaOut 7] ∧ ((s x y).part.room.line 0).alert = none ∧
        ((s x y).part.room.line 0).job = some 0 ∧ (s x y).part.room.job 0 = some x) ∧
      (line .idle).state = .idle ∧ (line .idle).job = none ∧ (line .idle).alert = none ∧
      boundJob.target.isBay = true ∧ boundJob.splitAllowed = true ∧
      (∀ delay ∈ [0, 1], let r := { running.part.room with
          profiles := running.part.room.profiles.set 4 { t12 := 1, t23 := 1, failover := delay } }
        (r.profiles.get CondKind.mediaOut.rank).failover = delay) := by decide +kernel

/-- A JAM and a MEDIA_OUT on a record of JAM, acknowledged and not, at each level; a JAM location already in the entry, a
fifth one, and one more than 255 dropped. -/
theorem witness_ConditionsJoinTheOpenRecord :
    let a := { record .jam true with
      conds := [{ kind := .jam, detail := .jam [1, 2, 3, 4] 255, first := 0, repeats := 65535 }], acked := true }
    let y := { line .alert with alert := some a }
    (∀ f ∈ [InFrame.jam 4, .jam 5, .coverOpen, .mediaOut 7],
        ((withLine 0 (got y f) running).part.room.line 0).rx.queue = [f]) ∧
      y.state = .alert ∧ y.alert = some a ∧ a.failover ≠ .due ∧ y.window = [] ∧ y.page = none ∧
      (∃ old ∈ a.conds.filter fun c => c.kind ≠ .noAnswer, old.kind = .jam) ∧
      (¬∃ old ∈ a.conds.filter fun c => c.kind ≠ .noAnswer, old.kind = .mediaOut) ∧ a.acked = true ∧
      (record .jam true).acked = false ∧ a.failover = .none := by decide +kernel

/-- A record that keeps another kind; the last kind of a loss and of a pause with a SUSPENDED job, its hold pending or not; no
job; frames held with something being sent and with nothing. -/
theorem witness_ClearedRemovesItsCondition :
    let y := fun (k : CondKind) (loss : Bool) (bound : Option JobId) =>
      { got (alerted k loss) (.cleared .jam) with job := bound }
    let held := { boundJob with state := .suspended }
    (withLine 0 (y .coverOpen true none) running).part.room.line 0 = y .coverOpen true none ∧
      ((record .coverOpen true).conds.filter fun c => c.kind ≠ .noAnswer ∧ c.kind ≠ .jam) ≠ [] ∧
      ((record .jam true).conds.filter fun c => c.kind ≠ .noAnswer ∧ c.kind ≠ .jam) = [] ∧
      (y .jam true (some 0)).job = some 0 ∧ (withJob 0 held running).part.room.job 0 = some held ∧
      held.state = .suspended ∧ (record .jam true).loss = true ∧ (record .jam false).loss = false ∧
      held.holdPending = false ∧ held.cutPending = false ∧ (y .jam false (some 0)).started = false ∧
      (y .jam true none).job = none ∧ { boundJob with state := .aborted }.state = .aborted ∧
      { y .jam false (some 0) with started := true, window := [entry true] }.window ≠ [] ∧
      { held with holdPending := true }.holdPending = true ∧
      (∀ b : BayId, (0 : JobId) ∉ running.part.room.queue (.bay b)) ∧
      (∀ l : LineId, (0 : JobId) ∉ running.part.room.queue (.line l)) ∧
      (y .jam false (some 0)).tx.hold = none ∧ (y .jam false (some 0)).tx.sending = [] ∧
      (y .jam false (some 0)).tx.pollDue = false ∧
      ({ Transmitter.powerOn with held := [.jobStart 9 1 0, .jobEnd .complete], hold := some (OutFrame.beginChar .poll) } :
        Transmitter).hold ≠ none := by decide +kernel

/-- A line with two characters left of a frame; a line at the end of a page's frame, before and past the page's last byte; one
with no page, with frames due, and with a POLL due ahead of them. -/
theorem witness_CharactersLeaveUnderTake :
    let c : TxChar := { value := 1, marker := false, role := .plain }
    let y := { busy with tx := { busy.tx with hold := some c, sending := [c] } }
    let sent := fun off : Nat => { busy with
      tx := { busy.tx with hold := some c }
      page := some { job := 0, copy := 1, entry := page, cursor := some off, closing := false, deferred := false } }
    let blocks := running.part.room.store.blocks
    y.state.live = true ∧ y.tx.hold = some c ∧ y.tx.sending = [c] ∧ y.tx.shift = none ∧
      (line .idle).tx.hold = none ∧ (sent 0).tx.sending = [] ∧ (sent 0).tx.due = [] ∧ (sent 0).tx.pollDue = false ∧
      (let z := { busy with tx := { busy.tx with hold := some c, due := [.jobEnd .complete, .resync 1], pollDue := true } }
       z.state.live = true ∧ z.tx.hold = some c ∧ z.tx.sending = [] ∧ z.page = none ∧ z.tx.due ≠ [] ∧
         z.tx.pollDue = true ∧ c.role ≠ .pollBegin) ∧
      0 < page.length ∧ page.length ≤ 3 ∧
      Dram.readRun blocks page.chain running.part.dram 0 3 = some [0, 0, 0] ∧
      Dram.readRun 0 page.chain running.part.dram 0 3 = none := by decide +kernel

/-- A page sent whose release is deferred, under both count sources. -/
theorem witness_PageCloseClosesItsEntry :
    let y := { sending busy .pageClose with
      window := [entry true, entry false]
      page := some { job := 0, copy := 1, entry := page, cursor := some 3, closing := true, deferred := true } }
    y.tx.shift = some { value := 0, marker := true, role := .ends .pageClose } ∧
      { y with state := .alert }.state = .alert ∧ { y with job := some 0 }.job = some 0 ∧ y.started = true ∧
      y.endSent = false ∧ { boundJob with pos := .done }.pos = .done ∧ boundJob.cutPending = false ∧
      y.tx.hold = none ∧ y.tx.sending = [] ∧ y.tx.due = [] ∧ y.tx.pollDue = false ∧ account.epoch = 0 ∧
      y.window = [entry true] ++ entry false :: [] ∧ (∀ d ∈ [entry true], d.closed = true) ∧
      (entry false).closed = false ∧ y.count.source = .exit ∧ { y.count with source := .sent }.source = .sent := by
  decide

/-- RESYNC sent in RECOVERING with the job ACTIVE and ABORTED, and in IDLE; JOB-START sent with an affordable page, a page
above the account's means, and no page. -/
theorem witness_ResyncAndJobStartGoOn :
    let rec' := { sending (line .recovering) (.resync 3) with job := some 0, turn := 3 }
    let start := { sending { busy with started := false } (.jobStart 3) with window := [], turn := 3 }
    let s := fun (x : Job) (a : Account) => withAccount 0 a (withJob 0 x (withLine 0 start running))
    let bare := { boundJob with intakeOpen := true, pages := [], pageCount := 0 }
    rec'.tx.shift = some { value := 0, marker := true, role := .ends (.resync 3) } ∧ rec'.state = .recovering ∧
      rec'.turn = 3 ∧ (sending (line .recovering) (.resync 3)).turn ≠ 3 ∧
      (sending (line .recovering) (.jobStart 3)).turn ≠ 3 ∧
      rec'.tx.hold = none ∧ rec'.tx.sending = [] ∧ rec'.tx.due = [] ∧ rec'.tx.pollDue = false ∧
      (sending (line .idle) (.resync 3)).state ≠ .recovering ∧
      start.tx.shift = some { value := 0, marker := true, role := .ends (.jobStart start.turn) } ∧
      start.page = none ∧ start.endSent = false ∧ 0 < start.depth ∧ boundJob.pos = .at 1 1 ∧
      boundJob.nextEntry = some page ∧ (s boundJob account).part.room.job 0 = some boundJob ∧
      (s boundJob account).part.room.account 0 = some account ∧
      (s boundJob account).part.room.chargeOf account page.desc ≤ account.limit - (account.consumed + account.held) ∧
      bare.waiting = true ∧ bare.nextEntry = none ∧
      { boundJob with holdPending := true }.holdPending = true ∧ boundJob.cutPending = false ∧
      { start with state := .alert }.state = .alert ∧ { boundJob with state := .aborted }.state = .aborted ∧
      (sending (line .idle) (.jobStart 0)).job = none ∧
      (∀ b : BayId, (0 : JobId) ∉ running.part.room.queue (.bay b)) ∧
      ∀ l : LineId, (0 : JobId) ∉ running.part.room.queue (.line l) := by decide +kernel

/-- A dear page: the rate of its cell is 65,535, above the account's 3,000. -/
theorem witness_JobStart_refused :
    let s := running.modRoom fun r => { r with meter := { r.meter with
      rates := Vector.replicate 48 { base := 65535, ksur := 0 } } }
    account.mode = .hard ∧
      account.limit - (account.consumed + account.held) < s.part.room.chargeOf account page.desc := by decide +kernel

/-- A STALLED job with a sheet in flight and with none. -/
theorem witness_StallTimerCutsTheJob :
    let x := { boundJob with state := .stalled, stallReason := some .budget }
    let s := fun window : List Entry => withJob 0 x (withLine 0 { busy with window := window, stall := some 1 } running)
    (∀ w ∈ [[], [entry true]], ((s w).part.room.line 0).stall ≠ none ∧ ((s w).part.room.line 0).job = some 0 ∧
        (s w).part.room.job 0 = some x ∧ ((s w).part.room.line 0).state = .busy ∧ ((s w).part.room.line 0).window = w) ∧
      (∀ b : BayId, (0 : JobId) ∉ (s []).part.room.queue (.bay b)) ∧
      ∀ l : LineId, (0 : JobId) ∉ (s []).part.room.queue (.line l) := by decide +kernel

/-- A QUEUED job with an affordable page and one IDLE line in its bay; the refused charge is that of
`witness_JobStart_refused`. -/
theorem witness_TheArbiterBindsJobsAndLines :
    let s := withAccount 0 account (withJob 0 job (withLine 23 (line .idle) running))
    s.part.room.job 0 = some job ∧ job.state = .queued ∧ job.nextEntry = some page ∧
      s.part.room.account job.account = some account ∧ 23 ∈ s.part.room.targets job.target ∧
      (s.part.room.line 23).state = .idle ∧ (s.part.room.line 23).covers job = true ∧
      (∀ k : LineId, k < 23 → (s.part.room.line k).state ≠ .idle) ∧
      s.part.room.chargeOf account page.desc ≤ account.limit - (account.consumed + account.held) := by decide +kernel

/-- A job that is passed over for money ahead of one whose account affords the same page. -/
theorem witness_TheArbiterBindsJobsAndLines_passed :
    let poor := { account with limit := 7000 }
    let s := (withAccount 0 poor (withAccount 1 account (withJob 1 { job with account := 1 } (withJob 0 job
      (withLine 23 (line .idle) running))))).modRoom fun r =>
        { r.setQueue (.bay 0) [0, 1] with meter := { r.meter with rates := Vector.replicate 48 { base := 900, ksur := 0 } } }
    s.part.room.queue (.bay 0) = [0] ++ 1 :: [] ∧ (s.part.room.line 23).state = .idle ∧
      s.part.room.job 0 = some job ∧ (s.part.room.line 23).covers job = true ∧ job.nextEntry = some page ∧
      s.part.room.account 0 = some poor ∧ job.blocked = false ∧ poor.mode = .hard ∧
      poor.limit - (poor.consumed + poor.held) < s.part.room.chargeOf poor page.desc ∧
      s.part.room.chargeOf account page.desc ≤ account.limit - (account.consumed + account.held) := by decide +kernel

/-- An IDLE line for which an ineligible job waits ahead of an eligible one, and a line that is not IDLE. -/
theorem witness_TheArbiterBindsJobsAndLines_line :
    let wants := { job with needs := { colour := .full, duplex := true, media := 0xFFFF } }
    let plain := { line .idle with att := some { printer with colour := .plain } }
    let s := (withAccount 0 account (withJob 1 job (withJob 0 wants (withLine 23 plain running)))).modRoom fun r =>
      r.setQueue (.bay 0) [0, 1]
    (s.part.room.line 23).state = .idle ∧ s.part.room.queue (.line 23) = [] ∧ s.part.room.queue (.bay 0) = [] ++ [0, 1] ∧
      (s.part.room.line 23).covers wants = false ∧ (s.part.room.line 23).covers job = true ∧
      job.nextEntry = some page ∧ s.part.room.account 0 = some account ∧
      s.part.room.chargeOf account page.desc ≤ account.limit - (account.consumed + account.held) ∧
      (s.part.room.line 22).state ≠ .idle := by decide +kernel

/-- A job STALLED for BUDGET on the one BUSY line, and one QUEUED with its blocked flag set. -/
theorem witness_ReexaminationRetriesTheAccountsJobs :
    let x := { boundJob with state := .stalled, stallReason := some .budget }
    let q := { job with blocked := true }
    let s := withAccount 0 account (withJob 0 x (withLine 0 busy running))
    let b := withAccount 0 account (withJob 0 q running)
    ((s.part.room.line 0).job = some 0 ∧ s.part.room.job 0 = some x ∧ x.account = 0 ∧ x.cutPending = false ∧
        x.pos = .at 1 1 ∧ x.nextEntry = some page ∧ s.part.room.account 0 = some account ∧
        (s.part.room.line 0).state = .busy ∧ busy.started = true ∧ busy.page = none ∧ busy.window.length < busy.depth ∧
        busy.endSent = false ∧ x.holdPending = false ∧ (∀ k, k ≠ 0 → (s.part.room.line k).job = none)) ∧
      b.part.room.job 0 = some q ∧ (∀ k : JobId, k ≠ 0 → b.part.room.job k = none) ∧
      (∀ l, (b.part.room.line l).job = none) ∧
      s.part.room.chargeOf account page.desc ≤ account.limit - (account.consumed + account.held) := by decide +kernel

/-- A BUSY line with its job, for each way on: to be cut, held, or aborted; an instance to open; a page to wait for; END; and
a line that is not BUSY. -/
theorem witness_TheLineGoesOn :
    let s := fun x : Job => withAccount 0 account (withJob 0 x (withLine 0 busy running))
    let bare := { boundJob with intakeOpen := true, pages := [], pageCount := 0 }
    (∀ x ∈ [boundJob, bare, { boundJob with pos := .done }, { boundJob with state := .aborted },
        { boundJob with holdPending := true },
        { boundJob with state := .stalled, stallReason := some .data, cutPending := true }],
      ((s x).part.room.line 0).job = some 0 ∧ (s x).part.room.job 0 = some x ∧
        (∀ b : BayId, (0 : JobId) ∉ (s x).part.room.queue (.bay b)) ∧
        ∀ l : LineId, (0 : JobId) ∉ (s x).part.room.queue (.line l)) ∧
      busy.state = .busy ∧ busy.started = true ∧ busy.page = none ∧ busy.window = [] ∧
      busy.window.length < busy.depth ∧ busy.endSent = false ∧ bare.waiting = true ∧ boundJob.nextEntry = some page ∧
      (s boundJob).part.room.account 0 = some account ∧ busy.tx.hold = none ∧ busy.tx.sending = [] ∧ busy.tx.due = [] ∧
      busy.tx.pollDue = false ∧ { busy with state := .recovering }.state ≠ .busy := by decide +kernel

/-- A sheet of a job with more to print, the last sheet of one with intake CLOSED, a sheet of an ABORTED job; a job that
completes on a BUSY line and in ALERT. -/
theorem witness_CompletionFreesTheJobAndItsLine :
    let s := fun (x : Job) (y : Line) => withJob 0 x (withLine 0 y running)
    (∀ x ∈ [boundJob, { boundJob with copies := 2 }, { boundJob with state := .aborted }],
      ∀ y ∈ [busy, { alerted .jam false with job := some 0 }],
        (s x y).part.room.job (entry true).job = some x ∧ ((s x y).part.room.line 0).job = some 0 ∧
          (∀ b : BayId, (0 : JobId) ∉ (s x y).part.room.queue (.bay b)) ∧
          ∀ l : LineId, (s x y).part.room.queue (.line l) = []) ∧
      boundJob.bound = some 0 ∧ boundJob.intakeOpen = false ∧
      boundJob.confirmed + 1 = boundJob.copies * boundJob.pageCount ∧ job.bound = none ∧ busy.state = .busy ∧
      busy.endSent = false ∧ { busy with endSent := true }.endSent = true := by decide +kernel

/-- PL0 with one sheet in flight. -/
def inFlight : Line := { busy with window := [entry true] }

/-- J0 with its one sheet sent. -/
def sentJob : Job := { boundJob with pos := .done }

/-- Its account, holding that sheet's charge. -/
def charged : Account := { account with held := 400 }

/-- The part in RUNNING with one line, and one job of one block whose account is charged. -/
def soundWith (y : Line) (x : Job) : State := running.modRoom fun r =>
  { ((r.setLine 0 y).setJob 0 (some x)).setAccount 0 (some charged) with
    freeEntries := 16383, store := { r.store with used := [0] } }

/-- The part in RUNNING with one job bound, whose one sheet of one block is in flight and charged. -/
def sound : State := soundWith inFlight sentJob

theorem soundWith_line (y : Line) (x : Job) (l : LineId) :
    (soundWith y x).part.room.line l = if l = 0 then y else Line.powerOn := by
  have h : running.part.room.line l = Line.powerOn := by
    have h : running.part.room.lines = Vector.replicate 24 Line.powerOn := rfl
    simp [Room.line, h, get_eq]
  show (running.part.room.setLine 0 y).line l = _
  rw [Room.setLine_line, h]

theorem sound_line (l : LineId) : sound.part.room.line l = if l = 0 then inFlight else Line.powerOn :=
  soundWith_line inFlight sentJob l

theorem soundWith_job (y : Line) (x : Job) (j : JobId) :
    (soundWith y x).part.room.job j = if j = 0 then some x else none := by
  have h : running.part.room.job j = none := by
    have h : running.part.room.jobs = Vector.replicate 256 none := rfl
    simp [Room.job, h, get_eq]
  show (running.part.room.setJob 0 (some x)).job j = _
  rw [Room.setJob_job, h]

theorem sound_job (j : JobId) : sound.part.room.job j = if j = 0 then some sentJob else none :=
  soundWith_job inFlight sentJob j

theorem sound_account (a : AcctId) : sound.part.room.account a = if a = 0 then some charged else none := by
  have h : running.part.room.account a = none := by
    have h : running.part.room.accounts = Vector.replicate 512 none := rfl
    simp [Room.account, h, get_eq]
  show (running.part.room.setAccount 0 (some charged)).account a = _
  rw [Room.setAccount_account, h]

theorem soundWith_queue (y : Line) (x : Job) (target : Target) : (soundWith y x).part.room.queue target = [] := by
  have hb : (soundWith y x).part.room.bayQueues = Vector.replicate 8 [] := rfl
  have hl : (soundWith y x).part.room.lineQueues = Vector.replicate 24 [] := rfl
  cases target <;> simp [Room.queue, hb, hl, get_eq]

theorem sound_linesSound : sound.part.linesSound := by
  refine ⟨fun l => ?_, fun l => ?_, fun h => absurd rfl h⟩ <;> rw [sound_line] <;> split <;>
    simp [inFlight, busy, line, Line.powerOn, LineState.attached]

theorem sound_blocksSound : sound.part.room.blocksSound := by
  refine ⟨by decide +kernel, by decide +kernel, by decide +kernel, fun j x h => ?_⟩
  rw [sound_job] at h
  split at h <;> simp at h
  subst h
  simp [sentJob, boundJob, job]

theorem soundWith_bindingsSound (y : Line) (x : Job) (hy : y.job = some 0) (hs : y.state = .busy ∨ y.state = .alert)
    (hb : x.bound = some 0) (hx : x.state = .active ∨ x.state = .suspended) :
    (soundWith y x).part.room.bindingsSound := by
  refine ⟨fun j z l h => ?_, fun l j h => ?_, fun l => ?_, fun j z h => ?_, fun target j => ?_, fun target => ?_⟩
  · rw [soundWith_job] at h
    rw [soundWith_line]
    split at h <;> simp at h
    subst h
    split <;> simp_all [Line.powerOn, eq_comm]
  · rw [soundWith_line] at h
    split at h <;> simp [hy, Line.powerOn] at h
    subst h
    simp [soundWith_job]
  · rw [soundWith_line]
    split
    · exact ⟨fun _ => hs.elim .inl fun h => .inr (.inr h), fun _ => by simp [hy]⟩
    · simp [Line.powerOn]
  · rw [soundWith_job] at h
    split at h <;> simp at h
    subst h
    exact ⟨fun _ => by simp [hb], fun _ => hx.elim .inl fun h => .inr (.inr (.inl h))⟩
  · rw [soundWith_queue, soundWith_job]
    have : x.state ≠ .queued := by rcases hx with h | h <;> simp [h]
    by_cases h : j = 0 <;> simp [h, this]
  · rw [soundWith_queue]
    exact List.Pairwise.nil

theorem sound_bindingsSound : sound.part.room.bindingsSound :=
  soundWith_bindingsSound _ _ rfl (.inl rfl) rfl (.inl rfl)

theorem sound_windowsSound : sound.part.room.windowsSound := by
  refine ⟨fun j x h _ _ => ?_, fun j x h => ?_, fun j x h _ => ?_, fun l h => ?_, fun l h => ?_, fun l => ?_,
    fun l h => ?_⟩
  · rw [sound_job] at h
    split at h <;> simp at h
    subst h
    simp [Job.posSound, sentJob, boundJob, job]
  · rw [sound_job] at h
    split at h <;> simp at h
    subst h
    simp [sentJob, boundJob, job]
  · rw [sound_job] at h
    by_cases hj : j = 0 <;> simp [hj] at h
    subst h hj
    decide +kernel
  · rw [sound_line] at h ⊢
    split at h <;> simp [Line.powerOn] at h
    rename_i hl
    refine ⟨0, sentJob, ?_⟩
    simp [hl, sound_job, inFlight, busy, entry, sentJob, boundJob, job, Job.place]
  · rw [sound_line] at h ⊢
    split at h <;> simp [Line.powerOn] at h
    rename_i hl
    simp [hl, inFlight, busy, line, Line.powerOn]
  · rw [sound_line]
    split <;> decide
  · rw [sound_line] at h ⊢
    split at h <;> exact absurd h (by decide)

theorem sound_accountsSound : sound.part.room.accountsSound := by
  intro a
  by_cases h : a = 0
  · subst h; decide +kernel
  · have hc : ∀ l, ((sound.part.room.line l).window.filter fun e => e.account = a) = [] := fun l => by
      rw [sound_line]
      split <;> simp [inFlight, entry, Line.powerOn, Ne.symm h]
    have hb : ∀ j, ((sound.part.room.job j).any fun x => decide (x.account = a)) = false := fun j => by
      rw [sound_job]
      split <;> simp [sentJob, boundJob, job, Ne.symm h]
    have n : (List.finRange 24).flatMap (fun _ => ([] : List Nat)) = [] := by simp [List.flatMap_eq_nil_iff]
    simp [Room.charges, Room.billed, hc, hb, sound_account, h, n]

/-- A SET-LINE that disables the line with the sheet in flight, its bindings sound. -/
theorem witness_LineDisableTearsDown_sound :
    let s := asked .setLine disablePL0.payload sound
    Taken s .setLine 7 disablePL0.payload [] ∧ s.part.link.phase = .running ∧ disablePL0.line = (0 : LineId).val ∧
      disablePL0.enable = false ∧ (s.part.room.line 0).state ≠ .disabled ∧ s.part.room.bindingsSound ∧
      (s.part.room.line 0).job = some 0 ∧ s.part.room.job 0 = some sentJob ∧ sentJob.state ≠ .aborted := by
  refine ⟨asked_Taken .setLine _ sound rfl rfl rfl rfl, rfl, rfl, rfl, ?_, sound_bindingsSound, ?_, ?_, by decide⟩
  · show (sound.part.room.line 0).state ≠ .disabled
    rw [sound_line]; decide
  · show (sound.part.room.line 0).job = some 0
    rw [sound_line]; rfl
  · show sound.part.room.job 0 = some sentJob
    rw [sound_job]; rfl

/-- PL0 paused in ALERT by MEDIA_OUT, a sheet in flight and a page being sent, a HELLO to be taken. -/
def paused (failover : Failover) : Line :=
  { got (alerted .mediaOut false) (.hello 1 0 .full true 0xFFFF 4) with
    job := some 0, window := [entry true], alert := some { record .mediaOut false with failover := failover }
    page := some { job := 0, copy := 1, entry := page, cursor := some 3, closing := true, deferred := true } }

/-- A HELLO in ALERT with entries and a page in flight, its failover DUE or not, the job SUSPENDED. -/
theorem witness_HelloAttachesThePrinter_inFlight (failover : Failover) :
    let x : Job := { sentJob with state := .suspended }
    let s := soundWith (paused failover) x
    (s.part.room.line 0).rx.queue = [.hello 1 0 .full true 0xFFFF 4] ∧ (s.part.room.line 0).state = .alert ∧
      (s.part.room.line 0).alert = some { record .mediaOut false with failover := failover } ∧
      s.part.room.bindingsSound ∧ (s.part.room.line 0).job = some 0 ∧ s.part.room.job 0 = some x ∧
      x.state = .suspended ∧ ∀ e ∈ (s.part.room.line 0).window, e.job = 0 := by
  refine ⟨?_, ?_, ?_, soundWith_bindingsSound _ _ rfl (.inr rfl) rfl (.inr rfl), ?_, ?_, rfl, ?_⟩ <;>
    simp only [soundWith_line, soundWith_job, if_true] <;> simp [paused, got, alerted, line, entry]

/-- A loss in ALERT with a sheet in flight, the failover DUE, the bindings sound. -/
theorem witness_LossesOnIdleAndAlertedLines_due :
    let x : Job := { sentJob with state := .suspended }
    let s := soundWith (paused .due) x
    (s.part.room.line 0).silence ≠ none ∧ (s.part.room.line 0).rx.cond.receives = true ∧
      (s.part.room.line 0).state = .alert ∧ s.part.room.bindingsSound ∧
      (s.part.room.line 0).alert = some { record .mediaOut false with failover := .due } ∧
      (s.part.room.line 0).job = some 0 ∧ s.part.room.job 0 = some x ∧ (s.part.room.line 0).window ≠ [] ∧
      (∀ e ∈ (s.part.room.line 0).window, e.job = 0) ∧ ∀ k, k ≠ 0 → (s.part.room.line k).job ≠ some 0 := by
  refine ⟨?_, ?_, ?_, soundWith_bindingsSound _ _ rfl (.inr rfl) rfl (.inr rfl), ?_, ?_, ?_, ?_, ?_, fun k hk => ?_⟩ <;>
    simp only [soundWith_line, soundWith_job, if_true] <;>
    simp_all [paused, got, alerted, line, entry, Receiver.fresh, RxCond.receives, Line.powerOn]

/-- A part with a sheet in flight meets the premises of the statements on what every step keeps, and it steps. -/
theorem witness_StoreStaysSound :
    Dram.wf sound.part.dram = true ∧ sound.part.storeSound ∧ sound.part.room.blocksSound ∧
      step sound = .next sound.tick := by
  refine ⟨by decide, ⟨by decide, by decide, fun h => nomatch h⟩, sound_blocksSound, rfl⟩

theorem witness_QueuesStayWithinTheirPlaces :
    sound.part.link.sound ∧ sound.part.room.inboundSound ∧ attnSound sound.part.room.attn := by
  have ha : sound.part.room.attn = [{ src := .device, marks := [.restarted .powerOn] }] := rfl
  refine ⟨⟨by decide, by decide, by decide⟩, fun l => ?_, ?_⟩
  · rw [sound_line]
    split <;> simp [inFlight, busy, line, Receiver.fresh, Receiver.stopped, Line.powerOn]
  · rw [ha]; exact ⟨by decide, by simp⟩

theorem witness_LinesAndFloorStayConsistent : sound.part.linesSound ∧ sound.part.room.floorSound := by
  refine ⟨sound_linesSound, by decide +kernel, ?_⟩
  simp only [sound_line]
  constructor
  · intro h; cases h
  · rintro ⟨l, a, h, -⟩
    split at h <;> simp [inFlight, busy, line, Line.powerOn] at h

theorem witness_BindingsStayConsistent : sound.part.linesSound ∧ sound.part.room.bindingsSound :=
  ⟨sound_linesSound, sound_bindingsSound⟩

theorem witness_WindowsHoldTheJobsInstances :
    sound.part.linesSound ∧ sound.part.room.bindingsSound ∧ sound.part.room.windowsSound :=
  ⟨sound_linesSound, sound_bindingsSound, sound_windowsSound⟩

theorem witness_HeldIsTheSumOfItsCharges : sound.part.room.accountsSound ∧ sound.part.room.hardSound := by
  refine ⟨sound_accountsSound, fun a x h => ?_⟩
  rw [sound_account] at h
  split at h <;> simp at h
  subst h
  decide

theorem witness_EpochsFollowTheScan : sound.part.room.epochsSound := by
  intro a x h _
  rw [sound_account] at h
  split at h <;> simp at h
  subst h
  decide

/-- A row that is no configuration request, START from UNCONFIGURED, POWER_ON_RESET from RUNNING, and an empty queue. -/
theorem witness_WhatOnlySomeCommandsChange :
    exec .closeScanTick sound = .next (after .closeScanTick sound) ∧ configures .closeScanTick = false ∧
      (let s := asked .start [] unconfigured
       s.part.link.phase ≠ .running ∧ exec .start s = .next (after .start s) ∧
         (after .start s).part.link.phase = .running) ∧
      sound.part.link.phase = .running ∧ exec .powerOnReset sound = .next (after .powerOnReset sound) ∧
      (after .powerOnReset sound).part.link.phase ≠ .running ∧ sound.pending = [] ∧ step sound = .next sound.tick := by
  refine ⟨rfl, rfl, ⟨by decide, rfl, by decide +kernel⟩, rfl, rfl, by decide, rfl, rfl⟩

/-! ## Samples -/

/-- The samples of a character's bits, 8 ticks a bit, and 8 ticks of mark after them. -/
def sampled (p : Parity) (value : Byte) (marker : Bool) : List Bool :=
  (wireBits { parity := p, twoStops := false, p := 0, k := 8 } value marker).flatMap (List.replicate 8) ++
    List.replicate 8 true

/-- The rows that samples bring on an IDLE line of a parity mode, and the receiver's condition after them. -/
def received (l : LineId) (p : Parity) (samples : List Bool) : List Instr × RxCond :=
  let y := { line .idle with fmt := { parity := p, twoStops := false, p := 0, k := 8 } }
  let after := (withLine l y running).part.room.rxSamples l (samples.map fun level => (level, 0))
  (after.2, (after.1.line l).rx.cond)

/-- R64: a character sent as R57 lays down is received as it was sent, with and without a parity bit. -/
theorem test_sampled_character :
    received 3 .even (sampled .even 0x41 true) = ([.characterReceived 3 0x41 true true true], .hunting) ∧
      received 3 .none (sampled .none 0xA5 false) = ([.characterReceived 3 0xA5 false false true], .hunting) := by
  decide +kernel

/-- R63, R70: a LOOPBACK line with RX at space receives the character its own transmitter sends, 8 ticks a bit. -/
theorem test_sampled_loopback :
    let y := { sending (line .loopback) .test with rx := { Receiver.fresh with path := [⟨0, true⟩] } }
    let after := (withLine 2 y running).part.room.rxSamples 2 ((List.range 96).map fun t => (false, t / 8))
    after.2 = [.characterReceived 2 0 true false true] ∧ (after.1.line 2).rx.path = [] ∧
      (after.1.line 2).rx.asm = .inFrame 0 [] false ∧ (after.1.line 2).rx.cond = .hunting := by decide +kernel

/-- R63: seven samples of space are removed. R64, R66: a long space gives one break, and mark lets the hunt resume. -/
theorem test_short_space :
    received 0 .none (List.replicate 7 false ++ List.replicate 100 true) = ([], .hunting) ∧
      received 0 .none (List.replicate 200 false ++ List.replicate 8 true) =
        ([.characterReceived 0 0 false false false, .huntResumes 0], .hunting) := by decide +kernel

/-- R167, R168: a press is seen at the eighth low sample, and not at the seventh. -/
theorem test_press_is_filtered :
    let pressed := fun run : Nat => running.setPart { running.part with
      pins := running.part.pins.setAck 2 false
      room := { running.part.room with floor := running.part.room.floor.setAck 2 { level := true, run := run } } }
    ((pressed 6).part.sampleAck 2).room.floor.ack.get 2 = { level := true, run := 7 } ∧
      ((pressed 7).part.sampleAck 2).room.floor.ack.get 2 = { level := false, run := 0 } := by decide +kernel

/-- R58: a rate group on a DETACHED line discards the character in reception. -/
theorem test_setLine_drops_character :
    let a : SetLineArgs := { line := 0, enable := true, loopback := false, character := none, rate := some (1, 8),
                             protocol := none, counting := none }
    let y := { line .detached with rx := { Receiver.fresh with cond := .sampling 20 [true] } }
    ((after .setLine (asked .setLine a.payload (withLine 0 y running))).part.room.line 0).rx.cond = .hunting := by
  decide +kernel

/-- R70, R72: a LOOPBACK line holds TX at mark while its shift stage carries a character; a live line begins it with
space. -/
theorem test_txPin :
    (withLine 0 (sending (line .loopback) .test) running).part.txPin 0 0 = true ∧
      (withLine 0 (sending (line .idle) .test) running).part.txPin 0 0 = false := by decide +kernel

/-- R171: with an empty queue HSO carries 00h. -/
theorem test_hso_idle : running.part.link.hso (fun _ => []) 2 = [0, 0] := by decide +kernel

/-- R94, R159: a RESYNC of an earlier recovery starts nothing in the present one. -/
theorem test_stale_resync :
    let y := { sending (line .recovering) (.resync 1) with job := some 0, turn := 2 }
    ((after (.resyncSent 0) (withJob 0 boundJob (withLine 0 y running))).part.room.line 0).tx.hold = none := by
  decide +kernel

/-- R84: the tick at which the silence timer runs out opens a record with NO_ANSWER. -/
theorem test_tick_silence :
    let t := (withLine 0 { line .idle with silence := some 1 } running).part.tick
    (t.room.line 0).alert.map (fun a => a.conds.map Cond.kind) = some [.noAnswer] := by decide +kernel

/-! ## Single steps -/

/-- R182: the straps 10 select N = 32,768. -/
theorem test_resetRelease : (after (.resetRelease 2) State.reset).part.room.store.blocks = 32768 := by decide +kernel

/-- R61: a line of mode ON is DETACHED after START. -/
theorem test_start :
    ((after .start (asked .start [] (withLine 3 { Line.powerOn with mode := .on } unconfigured))).part.room.line 3).state
      = .detached := by decide +kernel

/-- R177: LINK-STATUS clears the marker. -/
theorem test_linkStatus :
    (after .linkStatus (asked .linkStatus [] (running.modLink fun k => { k with refused := true }))).part.link.refused =
      false := by decide +kernel

/-- R81: WELCOME on PL5 with the lesser window is 10h, 05h, 02h. -/
theorem test_hello :
    let s := withLine 5 (got (line .detached) (.hello 1 0 .full true 0xFFFF 2)) running
    ((after (.hello 5) s).part.room.line 5).state = .idle ∧
      (((after (.hello 5) s).part.room.line 5).tx.sending.map TxChar.value).take 2 = [0x05, 0x02] := by decide +kernel

/-- R116: the opening of a page charged 0 reserves nothing and enters the window. -/
theorem test_jobStartSent :
    let y := sending { busy with started := false } (.jobStart 0)
    let s := withAccount 0 account (withJob 0 boundJob (withLine 0 y running))
    ((after (.jobStartSent 0) s).part.room.line 0).window.map Entry.charge = [0] ∧
      ((after (.jobStartSent 0) s).part.room.account 0).map Account.held = some 0 := by decide +kernel

/-- R90: an EXIT of 1 confirms one closed sheet: held falls and consumed rises by its charge. -/
theorem test_exit :
    let y := { got busy (.exit 1 1) with window := [entry true] }
    let s := withAccount 0 { account with held := 400 } (withJob 0 boundJob (withLine 0 y running))
    ((after (.exit 0) s).part.room.account 0).map Account.consumed = some 7400 ∧
      ((after (.exit 0) s).part.room.account 0).map Account.held = some 0 := by decide +kernel

/-- R21: the last sheet makes the job DONE. -/
theorem test_exit_completes :
    let y := { got busy (.exit 1 1) with window := [entry true] }
    let s := withAccount 0 { account with held := 400 } (withJob 0 { boundJob with pos := .done } (withLine 0 y running))
    ((after (.exit 0) s).part.room.job 0).map Job.state = some .done ∧
      ((after (.exit 0) s).part.room.line 0).state = .idle := by decide +kernel

/-- R92: a JAM releases what is held and sets the position back. -/
theorem test_jam :
    let y := { got busy (.jam 4) with window := [entry true] }
    let s := withAccount 0 { account with held := 400 } (withJob 0 { boundJob with pos := .done } (withLine 0 y running))
    ((after (.jam 0) s).part.room.account 0).map Account.held = some 0 ∧
      ((after (.jam 0) s).part.room.job 0).map Job.pos = some (.at 1 1) := by decide +kernel

/-- R166: the raise to level 3 rings the bell. -/
theorem test_escalationExpiry :
    let y := { line .alert with alert := some { record .jam true with level := .two } }
    (after (.escalationExpiry 0) (withLine 0 y running)).part.bellPin = true := by decide +kernel

/-- R66: all bits space is a break, and takes an attached line to ALERT with LINK_DOWN. -/
theorem test_break :
    (((after (.characterReceived 0 0 false false false) (withLine 0 (line .idle) running)).part.room.line 0).alert.map
      fun a => a.conds.map Cond.kind) = some [.linkDown] := by decide +kernel

/-- R127: the tick that takes A511 completes the close. -/
theorem test_closeScanTick :
    (after .closeScanTick (running.modRoom fun r => { r with meter := { r.meter with scan := some 496 } })).part.room.meter.scan
      = none := by decide +kernel

/-- R5: a slot above 255 is BAD_ARG. -/
theorem test_slot256 :
    ((after .jobReap (asked .jobReap (Wire.field 2 256) running)).part.link.replies.map Reply.status) = [.badArg] := by
  decide +kernel

end Sys2Proof.Tests
end

/-! SUPPORT. PAGE-BEGIN (R3, R7): the payload read back, the descriptor's checks and clamps, the branches of the request
on a slot that holds a job, and the obligation they add up to. -/

namespace Sys2Proof.Machine

/-! ## The request's payload and slot -/

/-- PAGE-BEGIN's payload gives its operands back, with and without a back coverage (R176). -/
theorem parsePageBegin_payload {a : PageBeginArgs} (h : a.fitsFields) : parsePageBegin a.payload = some a := by
  obtain ⟨slot, media, sides, colour, front, back⟩ := a
  obtain ⟨hslot, hmedia, hsides, hcolour, hfront, hback⟩ := h
  cases back with
  | some b =>
    have hseven : fields [2, 1, 1, 1, 1, 1]
        (PageBeginArgs.payload { slot, media, sides, colour, front, back := some b }) =
          some [slot, media, sides, colour, front, b] := by
      simp [PageBeginArgs.payload, fields_cons, fields_last, hslot, hmedia, hsides, hcolour, hfront, hback b rfl]
    simp [parsePageBegin, hseven]
  | none =>
    have hseven : fields [2, 1, 1, 1, 1, 1]
        (PageBeginArgs.payload { slot, media, sides, colour, front, back := none }) = none :=
      fields_none.2 (by simp [PageBeginArgs.payload])
    have hsix : fields [2, 1, 1, 1, 1]
        (PageBeginArgs.payload { slot, media, sides, colour, front, back := none }) =
          some [slot, media, sides, colour, front] := by
      simp [PageBeginArgs.payload, fields_cons, fields_last, hslot, hmedia, hsides, hcolour, hfront]
    simp [parsePageBegin, hseven, hsix]

/-- A job request on a slot that holds a job is the act on that job (R5). -/
theorem onJob_of_job {r : Room} {j : JobId} {x : Job} (hx : r.job j = some x)
    (act : JobId → Job → Room → Room × Status × Results) : onJob act j.val r = act j x r := by
  simp [onJob, hx]

/-- A PAGE-BEGIN that is taken answers what `pageBegin` gives. -/
theorem exec_pageBegin {s : State} {tag : Byte} {rest : List ReqFrame} {a : PageBeginArgs} (hfits : a.fitsFields)
    (htaken : Taken s .pageBegin tag a.payload rest) {room : Room} {status : Status} {results : Results}
    (hact : pageBegin a s.part.room = (room, status, results)) :
    exec .pageBegin s = .next (s.answered .pageBegin tag rest room status results) := by
  have hserve := htaken.serve_inRoom parsePageBegin pageBegin a (parsePageBegin_payload hfits)
  rw [hact] at hserve
  exact congrArg Host.Outcome.next hserve

/-! ## The descriptor (R3) -/

theorem ColourMode.rank_eq_code (c : ColourMode) : c.rank = c.code.val := by cases c <;> rfl

theorem modeOf?_eq_some {n : Nat} {c : ColourMode} : modeOf? n = some c ↔ c.code.val = n := by
  match n with
  | 0 | 1 | 2 => cases c <;> decide
  | n + 3 => simp [modeOf?]; omega

theorem backOf?_eq_some {sides : Nat} {back stored : Option Nat} :
    backOf? sides back = some stored ↔
      sides = 1 ∧ stored = none ∨ sides = 2 ∧ ∃ n, back = some n ∧ stored = some (min 100 n) := by
  match sides with
  | 0 | n + 3 => simp [backOf?]
  | 1 | 2 => simp [backOf?, eq_comm]

/-- The sides of a descriptor are those of the request that gave its back coverage. -/
theorem Descriptor.sides_of_backOf? {d : Descriptor} {sides : Nat} {back : Option Nat}
    (h : backOf? sides back = some d.back) : d.sides = sides := by
  obtain ⟨rfl, hback⟩ | ⟨rfl, n, -, hback⟩ := backOf?_eq_some.1 h <;> simp [Descriptor.sides, hback]

/-- The operands that give a descriptor, and the fields it takes from them. -/
theorem descriptorOf?_eq_some {a : PageBeginArgs} {needs : Needs} {d : Descriptor} :
    descriptorOf? a needs = some d ↔
      d.media.val = a.media ∧ d.colour.code.val = a.colour ∧ backOf? a.sides a.back = some d.back ∧
        d.front = min 100 a.front ∧ a.colour ≤ needs.colour.rank ∧ (a.sides = 2 → needs.duplex = true) ∧
        needs.media.getLsbD a.media = true := by
  constructor
  · intro h
    unfold descriptorOf? at h
    split at h
    case h_1 media colour back hmedia hcolour hback =>
      obtain ⟨⟨hrank, hduplex, hbit⟩, hd⟩ := Option.ite_none_right_eq_some.1 h
      cases hd
      rw [Descriptor.sides_of_backOf? hback] at hduplex
      rw [toFin?_eq_some] at hmedia
      rw [modeOf?_eq_some] at hcolour
      rw [ColourMode.rank_eq_code, hcolour] at hrank
      exact ⟨hmedia, hcolour, hback, rfl, hrank, hduplex, hmedia ▸ hbit⟩
    case h_2 => cases h
  · rintro ⟨hmedia, hcolour, hback, hfront, hrank, hduplex, hbit⟩
    have hfits : d.colour.rank ≤ needs.colour.rank ∧ (d.sides = 2 → needs.duplex = true) ∧
        needs.media.getLsbD d.media.val = true := by
      rw [ColourMode.rank_eq_code, hcolour, Descriptor.sides_of_backOf? hback, hmedia]
      exact ⟨hrank, hduplex, hbit⟩
    simp only [descriptorOf?, toFin?_eq_some.2 hmedia, modeOf?_eq_some.2 hcolour, hback, ← hfront]
    exact if_pos hfits

/-- What R3 refuses in the operands of a PAGE-BEGIN, for a job of these needs. -/
def PageBeginArgs.badDescriptor (a : PageBeginArgs) (needs : Needs) : Prop :=
  16 ≤ a.media ∨ a.sides = 0 ∨ 3 ≤ a.sides ∨ a.sides = 2 ∧ a.back = none ∨ 3 ≤ a.colour ∨
    needs.colour.rank < a.colour ∨ a.sides = 2 ∧ needs.duplex = false ∨ needs.media.getLsbD a.media = false

/-- Bad operands give no descriptor. -/
theorem descriptorOf?_of_bad {a : PageBeginArgs} {needs : Needs} (h : a.badDescriptor needs) :
    descriptorOf? a needs = none := by
  refine Option.eq_none_iff_forall_ne_some.2 fun d hd => ?_
  obtain ⟨hmedia, hcolour, hback, -, hrank, hduplex, hbit⟩ := descriptorOf?_eq_some.1 hd
  have hmediaLt := d.media.isLt
  have hcolourLt := d.colour.code.isLt
  have hsides := backOf?_eq_some.1 hback
  obtain h | h | h | ⟨htwo, hnone⟩ | h | h | ⟨htwo, hsimplex⟩ | h := h
  · omega
  · omega
  · omega
  · simp [htwo, hnone] at hsides
  · omega
  · omega
  · simp [hduplex htwo] at hsimplex
  · simp [hbit] at h

/-- Every colour code below 3 is the code of a mode. -/
theorem ColourMode.exists_code {n : Nat} (h : n < 3) : ∃ c : ColourMode, c.code.val = n := by
  match n with
  | 0 => exact ⟨.mono, rfl⟩
  | 1 => exact ⟨.spot, rfl⟩
  | 2 => exact ⟨.full, rfl⟩

/-- One side stores no back coverage, two sides the given one held at 100. -/
theorem backOf?_of_sides {sides : Nat} {back : Option Nat} (hlow : sides ≠ 0) (hhigh : sides < 3)
    (hback : ¬(sides = 2 ∧ back = none)) :
    backOf? sides back = some (if sides = 2 then back.map (min 100) else none) := by
  match sides with
  | 1 => simp [backOf?]
  | 2 => cases back with
    | none => simp at hback
    | some n => simp [backOf?]

/-- Operands that are not bad give the descriptor R3 stores. -/
theorem exists_descriptorOf? {a : PageBeginArgs} {needs : Needs} (h : ¬a.badDescriptor needs) :
    ∃ d, descriptorOf? a needs = some d ∧ d.media.val = a.media ∧ d.colour.code.val = a.colour ∧
      d.front = min 100 a.front ∧ d.back = if a.sides = 2 then a.back.map (min 100) else none := by
  simp only [PageBeginArgs.badDescriptor, not_or] at h
  obtain ⟨hmedia, hlow, hhigh, hback, hcolour, hrank, hduplex, hbit⟩ := h
  obtain ⟨colour, hcode⟩ := ColourMode.exists_code (not_le.1 hcolour)
  refine ⟨{ media := ⟨a.media, not_le.1 hmedia⟩, colour, front := min 100 a.front, back := _ },
    descriptorOf?_eq_some.2 ⟨rfl, hcode, backOf?_of_sides hlow (not_le.1 hhigh) hback, rfl, not_lt.1 hrank, ?_, ?_⟩,
    rfl, hcode, rfl, rfl⟩
  · exact fun htwo => Bool.of_not_eq_false fun hsimplex => hduplex ⟨htwo, hsimplex⟩
  · exact Bool.of_not_eq_false hbit

theorem coverageClamped_eq_true {a : PageBeginArgs} :
    coverageClamped a = true ↔ 100 < a.front ∨ a.sides = 2 ∧ 100 < a.back.getD 0 := by
  simp [coverageClamped]

/-! ## PAGE-BEGIN on a slot that holds a job: one equation per branch (R7) -/

/-- The job takes no page: it has ended, its intake is CLOSED, or a page is open. -/
def Job.refusesPage (x : Job) : Prop :=
  x.state = .done ∨ x.state = .aborted ∨ x.intakeOpen = false ∨ x.openPage ≠ none

/-- The model's own test of the same, at the head of PAGE-BEGIN. -/
theorem Job.refusesPage_iff {x : Job} :
    x.refusesPage ↔ x.state = .done ∨ x.state = .aborted ∨ x.intakeOpen = false ∨ x.openPage.isSome = true := by
  rw [Job.refusesPage, Option.isSome_iff_ne_none]

section
variable {a : PageBeginArgs} {r : Room} {j : JobId} {x : Job} (hslot : a.slot = j.val) (hjob : r.job j = some x)
include hslot hjob

theorem pageBegin_of_refusesPage (hstate : x.refusesPage) :
    pageBegin a r = refuseJob r j.val x .badState := by
  rw [pageBegin, hslot, onJob_of_job hjob]
  exact if_pos (Job.refusesPage_iff.1 hstate)

theorem pageBegin_of_full (hstate : ¬x.refusesPage) (hfull : x.pageCount = 4096) :
    pageBegin a r = refuseJob r j.val x .badArg := by
  rw [Job.refusesPage_iff] at hstate
  simp [pageBegin, hslot, onJob_of_job hjob, hstate, Config.maxPages, hfull]

theorem pageBegin_of_badDescriptor (hstate : ¬x.refusesPage) (hbad : a.badDescriptor x.needs) :
    pageBegin a r = refuseJob r j.val x .badArg := by
  rw [Job.refusesPage_iff] at hstate
  simp [pageBegin, hslot, onJob_of_job hjob, hstate, descriptorOf?_of_bad hbad]

theorem pageBegin_of_noEntry {d : Descriptor} (hstate : ¬x.refusesPage) (hcount : x.pageCount ≠ 4096)
    (hdesc : descriptorOf? a x.needs = some d) (hpool : r.freeEntries = 0) :
    pageBegin a r = refuseJob r j.val x .noSlot := by
  rw [Job.refusesPage_iff] at hstate
  simp [pageBegin, hslot, onJob_of_job hjob, hstate, Config.maxPages, hcount, hdesc, hpool]

theorem pageBegin_opens {d : Descriptor} (hstate : ¬x.refusesPage) (hcount : x.pageCount ≠ 4096)
    (hdesc : descriptorOf? a x.needs = some d) (hpool : r.freeEntries ≠ 0) :
    pageBegin a r =
      ({ r with freeEntries := r.freeEntries - 1 }.setJob j
          (some { x with openPage := some { index := x.pageCount + 1, desc := d, length := 0, chain := [],
                                            copies := 0 } }),
        if 100 < a.front ∨ a.sides = 2 ∧ 100 < a.back.getD 0 then .clamped else .ok,
        .pageIndex j x.state (x.pageCount + 1)) := by
  rw [Job.refusesPage_iff] at hstate
  simp [pageBegin, hslot, onJob_of_job hjob, hstate, Config.maxPages, hcount, hdesc, hpool, coverageClamped_eq_true]

end

end Sys2Proof.Machine

section
open Sys2Proof Sys2Proof.Machine

/-- Settles O18. The branches of `pageBegin` in their order, each read as the request's answer. -/
theorem pageBeginOpensAPage : Obligations.PageBeginOpensAPage := by
  intro s tag rest a j x hfits hslot hjob htaken badState badDescriptor refused
  refine ⟨fun hstate => ?_, fun hstate hbad => ?_, fun hstate hcount hgood hpool => ?_,
    fun hstate hcount hgood hpool => ?_⟩
  · exact exec_pageBegin hfits htaken (pageBegin_of_refusesPage hslot hjob hstate)
  · obtain hfull | hbad := hbad
    · exact exec_pageBegin hfits htaken (pageBegin_of_full hslot hjob hstate hfull)
    · exact exec_pageBegin hfits htaken (pageBegin_of_badDescriptor hslot hjob hstate hbad)
  · obtain ⟨d, hdesc, -⟩ := exists_descriptorOf? hgood
    exact exec_pageBegin hfits htaken (pageBegin_of_noEntry hslot hjob hstate hcount hdesc hpool)
  · obtain ⟨d, hdesc, hmedia, hcolour, hfront, hback⟩ := exists_descriptorOf? hgood
    exact ⟨d, hmedia, hcolour, hfront, hback,
      exec_pageBegin hfits htaken (pageBegin_opens hslot hjob hstate hcount hdesc hpool)⟩

end

/-! SUPPORT. The page charge (R102 to R104) and SET-RATE (R99): each stage's rounding, range and growth, the rate table
read after a cell is written, and the obligation they add up to. -/

namespace Sys2Proof.Machine

/-! ## Stage 1: the surcharge (R102) -/

/-- The surcharge is `coverage * ksur / 100` rounded to the nearest, a half rounded up. -/
theorem surcharge_rounds (coverage ksur : Nat) :
    100 * surcharge coverage ksur ≤ coverage * ksur + 50 ∧
      coverage * ksur + 50 < 100 * surcharge coverage ksur + 100 := by
  unfold surcharge
  omega

@[simp] theorem surcharge_zero (ksur : Nat) : surcharge 0 ksur = 0 := by simp [surcharge]

@[simp] theorem surcharge_full (ksur : Nat) : surcharge 100 ksur = ksur := by
  unfold surcharge
  omega

theorem surcharge_mono {lower coverage : Nat} (h : lower ≤ coverage) (ksur : Nat) :
    surcharge lower ksur ≤ surcharge coverage ksur :=
  Nat.div_le_div_right (Nat.add_le_add_right (Nat.mul_le_mul_right ksur h) 50)

/-- No coverage costs more than full coverage. -/
theorem surcharge_le_ksur {coverage : Nat} (h : coverage ≤ 100) (ksur : Nat) : surcharge coverage ksur ≤ ksur :=
  calc surcharge coverage ksur
    _ ≤ surcharge 100 ksur := surcharge_mono h ksur
    _ = ksur := surcharge_full ksur

/-! ## Stages 2 and 3: the cost of a side and of a page (R103) -/

theorem Descriptor.sides_eq_one {d : Descriptor} : d.sides = 1 ↔ d.back = none := by
  cases h : d.back <;> simp [Descriptor.sides, h]

theorem rawCost_of_no_back {d : Descriptor} (h : d.back = none) (rate : Rate) :
    rawCost rate d = sideCost rate d.front := by
  simp [rawCost, h]

theorem rawCost_of_back {d : Descriptor} {back : Nat} (h : d.back = some back) (rate : Rate) :
    rawCost rate d = sideCost rate d.front + sideCost rate back := by
  simp [rawCost, h]

section
variable {rate : Rate} (hbase : rate.base ≤ 65535) (hksur : rate.ksur ≤ 65535)
include hbase hksur

theorem sideCost_le {coverage : Nat} (h : coverage ≤ 100) : sideCost rate coverage ≤ 131070 := by
  have hsurcharge : surcharge coverage rate.ksur ≤ rate.ksur := surcharge_le_ksur h rate.ksur
  unfold sideCost
  omega

theorem rawCost_le {d : Descriptor} (hfront : d.front ≤ 100) (hback : ∀ back, d.back = some back → back ≤ 100) :
    rawCost rate d ≤ 262140 := by
  have hfrontCost : sideCost rate d.front ≤ 131070 := sideCost_le hbase hksur hfront
  cases h : d.back with
  | none =>
    rw [rawCost_of_no_back h]
    omega
  | some back =>
    have hbackCost : sideCost rate back ≤ 131070 := sideCost_le hbase hksur (hback back h)
    rw [rawCost_of_back h]
    omega

end

/-! ## Stage 4: the charge (R104) -/

/-- The charge is `rawCost * factor / 256` rounded to the nearest, a half rounded up. -/
theorem charge_rounds (rate : Rate) (factor : Nat) (d : Descriptor) :
    256 * charge rate factor d ≤ rawCost rate d * factor + 128 ∧
      rawCost rate d * factor + 128 < 256 * charge rate factor d + 256 := by
  unfold charge
  omega

@[simp] theorem charge_factor_zero (rate : Rate) (d : Descriptor) : charge rate 0 d = 0 := by simp [charge]

/-- A factor of 256 stands for 1. -/
@[simp] theorem charge_factor_one (rate : Rate) (d : Descriptor) : charge rate 256 d = rawCost rate d := by
  unfold charge
  omega

/-- A cap on the raw cost and one on the factor cap the charge. -/
theorem charge_le_of_rawCost_le {rate : Rate} {d : Descriptor} {factor cost top : Nat} (hcost : rawCost rate d ≤ cost)
    (hfactor : factor ≤ top) : charge rate factor d ≤ (cost * top + 128) / 256 :=
  Nat.div_le_div_right (Nat.add_le_add_right (Nat.mul_le_mul hcost hfactor) 128)

/-- The largest charge: both rates and the factor at the top of their ranges, two sides covered in full. -/
theorem charge_largest (media : Fin 16) (colour : ColourMode) :
    charge { base := 65535, ksur := 65535 } 1023
      { media := media, colour := colour, front := 100, back := some 100 } = 1047536 := by
  simp [charge, rawCost, sideCost]

/-! ## The rate table (R98, R99) -/

theorem ColourMode.code_injective : Function.Injective ColourMode.code := fun c c' h =>
  Option.some_inj.1 <|
    calc some c
      _ = modeOf? c'.code.val := (modeOf?_eq_some.2 (congrArg Fin.val h)).symm
      _ = some c' := modeOf?_eq_some.2 rfl

/-- Every pair of a media class and a colour mode has a cell of its own. -/
theorem cellOf_inj {m m' : Fin 16} {c c' : ColourMode} : cellOf m c = cellOf m' c' ↔ m = m' ∧ c = c' := by
  constructor
  · intro h
    have hplace : 3 * m.val + c.code.val = 3 * m'.val + c'.code.val := congrArg Fin.val h
    have hcode := c.code.isLt
    have hcode' := c'.code.isLt
    exact ⟨Fin.ext (by omega), ColourMode.code_injective (Fin.ext (by omega))⟩
  · rintro ⟨rfl, rfl⟩
    rfl

/-- The rate table after one cell is written: that cell holds the rate, every other one what it held. -/
theorem Meter.setRate_rate (meter : Meter) (m m' : Fin 16) (c c' : ColourMode) (rate : Rate) :
    (meter.setRate m c rate).rate m' c' = if m' = m ∧ c' = c then rate else meter.rate m' c' := by
  have hcell : (cellOf m c).val = (cellOf m' c').val ↔ m' = m ∧ c' = c := by
    rw [Fin.val_inj, eq_comm, cellOf_inj]
  simp only [Meter.setRate, Meter.rate, get_eq, Vector.getElem_set, hcell]

/-! ## SET-RATE (R99) -/

/-- SET-RATE's colour codes are those of PAGE-BEGIN. -/
theorem ColourMode.ofCode?_eq_modeOf? (n : Nat) : ColourMode.ofCode? n = modeOf? n := by
  match n with
  | 0 | 1 | 2 | n + 3 => rfl

theorem ColourMode.ofCode?_eq_some {n : Nat} {c : ColourMode} : ColourMode.ofCode? n = some c ↔ c.code.val = n := by
  rw [ColourMode.ofCode?_eq_modeOf?, modeOf?_eq_some]

/-- SET-RATE's payload gives its operands back (R176). -/
theorem parseSetRate_payload {media colour base ksur : Nat} (hmedia : media < 256) (hcolour : colour < 256)
    (hbase : base < 4294967296) (hksur : ksur < 4294967296) :
    parseSetRate (Wire.field 1 media ++ Wire.field 1 colour ++ Wire.field 4 base ++ Wire.field 4 ksur) =
      some (media, colour, base, ksur) := by
  simp [parseSetRate, fields_cons, fields_last, hmedia, hcolour, hbase, hksur]

/-- A cell that is not in the table is refused. -/
theorem setRate_of_unlisted {media colour : Nat} (h : 16 ≤ media ∨ 3 ≤ colour) (base ksur : Nat) (r : Room) :
    setRate (media, colour, base, ksur) r = (r, .badArg, .none) := by
  unfold setRate
  split
  case h_1 m c hm hc =>
    have hmedia : m.val = media := toFin?_eq_some.1 hm
    have hcolour : c.code.val = colour := ColourMode.ofCode?_eq_some.1 hc
    have hmediaLt := m.isLt
    have hcolourLt := c.code.isLt
    omega
  case h_2 => rfl

/-- A listed cell takes both values, each held at 65,535, and the cell is reported as it was and as written. -/
theorem setRate_of_listed (m : Fin 16) (c : ColourMode) (base ksur : Nat) (r : Room) :
    setRate (m.val, c.code.val, base, ksur) r =
      ({ r with meter := r.meter.setRate m c { base := min 65535 base, ksur := min 65535 ksur } },
        if 65535 < base ∨ 65535 < ksur then .clamped else .ok,
        .rate (r.meter.rate m c) { base := min 65535 base, ksur := min 65535 ksur }) := by
  have hcolour : ColourMode.ofCode? c.code.val = some c := ColourMode.ofCode?_eq_some.2 rfl
  simp [setRate, hcolour]

end Sys2Proof.Machine

section
open Sys2Proof Sys2Proof.Machine

/-- Settles O30. The charge stage by stage, each range from the one before it; then SET-RATE, refused or written. -/
theorem ratesAndChargesAreExact : Obligations.RatesAndChargesAreExact := by
  refine ⟨⟨fun coverage ksur hcoverage hksur => ?_, fun rate d hbase hksur hfront hback => ?_, charge_largest⟩,
    fun s tag rest media colour base ksur hmedia hcolour hbase hksur htaken => ?_⟩
  · obtain ⟨hbelow, habove⟩ := surcharge_rounds coverage ksur
    exact ⟨hbelow, habove, surcharge_le_ksur hcoverage ksur, surcharge_zero ksur, surcharge_full ksur,
      fun lower hlower => surcharge_mono hlower ksur⟩
  · have hraw : rawCost rate d ≤ 262140 := rawCost_le hbase hksur hfront hback
    refine ⟨fun hone => rawCost_of_no_back (Descriptor.sides_eq_one.1 hone) rate,
      fun back _ hsome => rawCost_of_back hsome rate, rfl, sideCost_le hbase hksur hfront, hraw,
      fun factor hfactor => ?_⟩
    obtain ⟨hbelow, habove⟩ := charge_rounds rate factor d
    exact ⟨hbelow, habove, charge_factor_one rate d, charge_factor_zero rate d, charge_le_of_rawCost_le hraw hfactor⟩
  · have hexec : exec .setRate s = .next (s.answered .setRate tag rest _ _ _) :=
      congrArg Host.Outcome.next
        (htaken.serve_inRoom parseSetRate setRate _ (parseSetRate_payload hmedia hcolour hbase hksur))
    refine ⟨fun hunlisted => ?_, ?_⟩
    · rw [hexec, setRate_of_unlisted hunlisted]
      rfl
    · rintro m c rfl rfl
      rw [setRate_of_listed] at hexec
      exact ⟨_, hexec, rfl, fun m' c' => Meter.setRate_rate s.part.room.meter m m' c c' _⟩

end
